-- ==== Sys2Proof/Word.lean ====
section
/-! DEFINITION. The byte of the control link (R175): eight data bits. -/

namespace Sys2Proof

/-- One byte of the control link (R175). -/
abbrev Byte := BitVec 8

end Sys2Proof
end

