-- ==== Sys2Proof/Syntax.lean ====
section
/-! DEFINITION. The commands of the part: one constructor of `Instr` for each row of spec/opcode_table.json,
with the operands the row's rule gives it. Rows that the host controller commands carry the frame's tag and raw
body (R176, R191), so that a body of any length or content is a term. -/

namespace Sys2Proof

/-- Why the receiver abandons a frame at a byte (R175, second and third case). -/
inductive AbandonCause where
  | overLength   -- the length field exceeds 1,024
  | lowStopBit   -- a byte with a low stop bit
  deriving DecidableEq, Repr

/-- How a sensor attempt ends by itself (R38, R39): an unacknowledged byte, which is the phase's address byte or, with
`command` set, the command byte after it; or the five bytes of the read phase in the order received (raw temperature,
raw humidity, check). -/
inductive AttemptEnd where
  | noAck (command : Bool)
  | read (t1 t0 h1 h0 check : Byte)
  deriving DecidableEq, Repr

/-- The correlation magnitudes of one microphone at the end of ANALYSE (R117): pairs of a lag and its magnitude,
0 at every lag not listed. Only ratios of magnitudes matter. -/
structure Reading where
  mic : Nat
  mags : List (Nat × Nat)
  deriving DecidableEq, Repr, Inhabited

/-- The steps of the part (spec/opcode_table.json, spec/95_what_each_step_holds.md). -/
inductive Instr where
  | startUp (strap0 strap1 : Bool) (levels : BitVec 6) (imageIntact : Bool)  -- START_UP, R188
  | frameReceived (kind tag : Byte) (body : List Byte) (check : BitVec 16)    -- FRAME_RECEIVED, R176
  | frameAbandoned (cause : AbandonCause)                                     -- FRAME_ABANDONED, R175
  | interByteTimeout                                                          -- INTER_BYTE_TIMEOUT, R175
  | unknownKindCommand (kind tag : Byte) (body : List Byte)                   -- UNKNOWN_KIND_COMMAND, R177
  | hello (tag : Byte) (body : List Byte)                                     -- HELLO, R189
  | resetFull (tag : Byte) (body : List Byte)                                 -- RESET_FULL, R190
  | resetAlign (tag : Byte) (body : List Byte)                                -- RESET_ALIGN, R190
  | resume (tag : Byte) (body : List Byte)                                    -- RESUME, R181
  | globalSet (tag : Byte) (body : List Byte)                                 -- GLOBAL_SET, R185
  | globalGet (tag : Byte) (body : List Byte)                                 -- GLOBAL_GET, R185
  | zoneSet (tag : Byte) (body : List Byte)                                   -- ZONE_SET, R9
  | zoneGet (tag : Byte) (body : List Byte)                                   -- ZONE_GET, R17
  | zoneMute (tag : Byte) (body : List Byte)                                  -- ZONE_MUTE, R14
  | pathSet (tag : Byte) (body : List Byte)                                   -- PATH_SET, R25
  | pathDrop (tag : Byte) (body : List Byte)                                  -- PATH_DROP, R31
  | pathGetOne (tag : Byte) (body : List Byte)                                -- PATH_GET_ONE, R34
  | pathGetListing (tag : Byte) (body : List Byte)                            -- PATH_GET_LISTING, R35
  | micSet (tag : Byte) (body : List Byte)                                    -- MIC_SET, R159
  | micGet (tag : Byte) (body : List Byte)                                    -- MIC_GET, R160
  | micRestore (tag : Byte) (body : List Byte)                                -- MIC_RESTORE, R158
  | sensorSet (tag : Byte) (body : List Byte)                                 -- SENSOR_SET, R44
  | sensorGet (tag : Byte) (body : List Byte)                                 -- SENSOR_GET, R47
  | regionOverrideSet (tag : Byte) (body : List Byte)                         -- REGION_OVERRIDE_SET, R53
  | regionOverrideClear (tag : Byte) (body : List Byte)                       -- REGION_OVERRIDE_CLEAR, R53
  | regionGet (tag : Byte) (body : List Byte)                                 -- REGION_GET, R55
  | eqSet (tag : Byte) (body : List Byte)                                     -- EQ_SET, R172
  | eqGet (tag : Byte) (body : List Byte)                                     -- EQ_GET, R173
  | probeRequest (tag : Byte) (body : List Byte)                              -- PROBE_REQUEST, R94
  | probeCancel (tag : Byte) (body : List Byte)                               -- PROBE_CANCEL, R104
  | queueGetEntries (tag : Byte) (body : List Byte)                           -- QUEUE_GET_ENTRIES, R109
  | queueGetSchedule (tag : Byte) (body : List Byte)                          -- QUEUE_GET_SCHEDULE, R110
  | lineSet (tag : Byte) (body : List Byte)                                   -- LINE_SET, R182
  | lineGet (tag : Byte) (body : List Byte)                                   -- LINE_GET, R182
  | storeSave (tag : Byte) (body : List Byte)                                 -- STORE_SAVE, R186
  | storeSaveComplete (readBackMatches : Bool)                                -- STORE_SAVE_COMPLETE, R186
  | storeLoad (tag : Byte) (body : List Byte)                                 -- STORE_LOAD, R187
  | storeLoadComplete (imageIntact : Bool)                                    -- STORE_LOAD_COMPLETE, R187
  | transmitEnd                                                               -- TRANSMIT_END, R179
  | supervisionLapse                                                          -- SUPERVISION_LAPSE, R180
  | lineLevelChange (line : Fin 6) (high : Bool)                              -- LINE_LEVEL_CHANGE, R183
  | sensorDue (n : Fin 8)                                                     -- SENSOR_DUE, R36
  | conversionWaitEnd                                                         -- CONVERSION_WAIT_END, R37
  | clockStuck                                                                -- CLOCK_STUCK, R38
  | dataStuck                                                                 -- DATA_STUCK, R38
  | sensorAttemptEnd (result : AttemptEnd)                                    -- SENSOR_ATTEMPT_END, R40
  | stalenessExpiry (n : Fin 8)                                               -- STALENESS_EXPIRY, R43
  | holdExpiry (r : Fin 8)                                                    -- HOLD_EXPIRY, R51
  | millisecondBoundary                                                       -- MILLISECOND_BOUNDARY, R78
  | delayXfadeEnd (z : Fin 48)                                                -- DELAY_XFADE_END, R84
  | fadeOutComplete (z : Fin 48)                                              -- FADE_OUT_COMPLETE, R86
  | fadeInComplete (z : Fin 48)                                               -- FADE_IN_COMPLETE, R85
  | eqXfadeEnd (z : Fin 48)                                                   -- EQ_XFADE_END, R168
  | audioClockLoss                                                            -- AUDIO_CLOCK_LOSS, R90
  | audioClockReturn                                                          -- AUDIO_CLOCK_RETURN, R91
  | trackingDue (z : Fin 48)                                                  -- TRACKING_DUE, R98
  | quietWaitLeave                                                            -- QUIET_WAIT_LEAVE, R114
  | deferLimitExpiry                                                          -- DEFER_LIMIT_EXPIRY, R114
  | leadInEnd                                                                 -- LEAD_IN_END, R115
  | captureEnd                                                                -- CAPTURE_END, R116
  | analyseEnd (readings : List Reading) (loop : List (Nat × Nat))            -- ANALYSE_END, R122
  | rampOutEnd                                                                -- RAMP_OUT_END, R127
  | silentTrip (m : Fin 16)                                                   -- SILENT_TRIP, R152
  | overloadTrip (m : Fin 16)                                                 -- OVERLOAD_TRIP, R153
  | overloadWindowEnd (m : Fin 16)                                            -- OVERLOAD_WINDOW_END, R153
  | stuckTrip (m : Fin 16)                                                    -- STUCK_TRIP, R154
  | deafTrip (m : Fin 16)                                                     -- DEAF_TRIP, R155
  | commandPhaseEnd                                                           -- COMMAND_PHASE_END, R37
  | syncPairFound                                                             -- SYNC_PAIR_FOUND, R175
  deriving DecidableEq, Repr

end Sys2Proof
end

