-- ==== Sys2Proof/Machine/State.lean ====
section
/-! DEFINITION. The state of the part as plain data: every record, table, list, counter and mode the manual names,
with the values it has at reset. Times are counts of the internal timebase in units of 1/48 ms (log entry 6).
Quantities are whole numbers in the units of Figure 0-3. -/

namespace Sys2Proof.Machine

/-! ### Zones and delay lines -/

/-- The configuration fields of a zone record in record order (Figure 1-1). `active` is the state ACTIVE. -/
structure ZoneCfg where
  active : Bool := false
  feed : Option Nat := none
  lead : Option Nat := none
  mic : Option Nat := none
  region : Nat := 0
  base : Nat := 0
  trim : Int := 0
  prec : Nat := 0
  outLat : Nat := 0
  airComp : Nat := 0
  tracking : Bool := false
  interval : Nat := 60
  gate : Nat := 240
  slew : Nat := 8
  xthr : Nat := 480
  deriving DecidableEq, Repr, Inhabited

/-- Solver statuses (Figure 4-1). -/
inductive SolverStatus where
  | free | aligned | noPath | clampedLow | clampedHigh | heldFrozen
  deriving DecidableEq, Repr, Inhabited

/-- The missing-term indication (R63, R67): which term paths were missing at the last computation. -/
structure Missing where
  lead : Bool := false
  own : Bool := false
  deriving DecidableEq, Repr, Inhabited

/-- The transition state of a delay line with its crossfade record, present only in XFADE (R77). -/
inductive Transition where
  | steady
  | glide
  | xfade (origin dest elapsed : Nat)
  deriving DecidableEq, Repr, Inhabited

/-- The states of a mute stage (R85): `opened` is OPEN. -/
inductive MuteStage where
  | opened | fadingOut | closed | fadingIn
  deriving DecidableEq, Repr

/-- Band types (R163). -/
inductive BandType where
  | peak | lowShelf | highShelf | lowCut | highCut
  deriving DecidableEq, Repr, Inhabited

/-- A band record (Figure 10-1): frequency in Hz, gain in tenths of a dB, Q in hundredths. -/
structure Band where
  type : BandType
  freq : Nat
  gain : Int
  q : Nat
  enabled : Bool
  deriving DecidableEq, Repr, Inhabited

/-- A complete set (R162): a copy of a host band list and one air-loss shelf gain in tenths of a dB. -/
structure EqSet where
  bands : List Band := []
  shelf : Nat := 0
  deriving DecidableEq, Repr, Inhabited

/-- The crossfade record of an equaliser, present only in BLENDING (R162). -/
structure EqXfade where
  origin : EqSet
  dest : EqSet
  elapsed : Nat
  deriving DecidableEq, Repr, Inhabited

/-- A zone's equaliser (R162). The EQ state is BLENDING exactly while `xfade` is present. `memA` and `memB` hold the
filter memories of the current (or origin) chain and of the destination chain, band by band and the shelf's last; a
cleared memory is 0, and those beyond a list's end are cleared (R168). -/
structure Equaliser where
  bands : List Band := []
  current : EqSet := {}
  xfade : Option EqXfade := none
  pendingSet : Option EqSet := none
  memA : List Nat := []
  memB : List Nat := []
  deriving DecidableEq, Repr, Inhabited

/-- A zone record (R1) with its solver fields (R63), delay line (R77), mute stage (R85) and equaliser (R162).
`memory` lists the feed samples newest first; the samples beyond its end are silence. `slide` is the running delay
before the last glide step, present for the millisecond of audio in which the read point passes from it (R78). `retiring` is set from a
retirement until the fade-out it starts is complete (R13, R89, R171). -/
structure Zone where
  cfg : ZoneCfg := {}
  hostMute : Bool := false
  target : Nat := 0
  status : SolverStatus := .free
  held : SolverStatus := .free
  missing : Missing := {}
  memory : List Int := []
  running : Nat := 0
  slide : Option Nat := none
  transition : Transition := .steady
  stage : MuteStage := .closed
  fade : Nat := 0
  retiring : Bool := false
  eq : Equaliser := {}
  deriving DecidableEq, Repr, Inhabited

/-! ### Paths -/

/-- Per-microphone verdicts (Figure 11-11). -/
inductive Verdict where
  | found | lowPnr | outsideGate | implausible | masked | micDown | tableFull | notRun
  deriving DecidableEq, Repr, Inhabited

/-- The last result of a path (Figure 2-2). -/
structure LastResult where
  verdict : Verdict
  arrival : Option Nat
  pnr : Option Nat
  error : Option Int
  time : Nat
  deriving DecidableEq, Repr, Inhabited

/-- Where a distance came from, with the survey temperature of a SURVEYED path (R21). -/
inductive Origin where
  | surveyed (temp : Int)
  | entered
  deriving DecidableEq, Repr, Inhabited

/-- The tracker state of a path (Figure 2-1). -/
inductive TrackerState where
  | acquire | track
  deriving DecidableEq, Repr, Inhabited

/-- A path record (Figure 2-1). -/
structure Path where
  zone : Nat
  mic : Nat
  dist : Nat
  origin : Origin
  correction : Int := 0
  tracker : TrackerState := .acquire
  goodRun : Nat := 0
  missRun : Nat := 0
  limit : Bool := false
  last : Option LastResult := none
  deriving DecidableEq, Repr, Inhabited

/-! ### Climate -/

/-- The configuration fields of a sensor record (Figure 3-1). -/
structure SensorCfg where
  addr : Nat
  region : Nat := 0
  enabled : Bool := false
  deriving DecidableEq, Repr, Inhabited

/-- Sensor states (R42). -/
inductive SensorState where
  | off | fresh | stale | failed
  deriving DecidableEq, Repr, Inhabited

/-- Failure kinds (Figure 3-1). -/
inductive FailKind where
  | noAck | dataStuck | clockStuck | badCheck | outOfRange
  deriving DecidableEq, Repr, Inhabited

/-- The most recent good read (R41): the three fields are present together. -/
structure SensorReading where
  temp : Int
  hum : Nat
  time : Nat
  deriving DecidableEq, Repr, Inhabited

/-- A sensor record (Figure 3-1) with its due time and most recent poll start (R36, R56). -/
structure Sensor where
  cfg : SensorCfg
  state : SensorState := .off
  reading : Option SensorReading := none
  fails : Nat := 0
  lastFail : Option FailKind := none
  due : Option Nat := none
  lastPoll : Option Nat := none
  deriving DecidableEq, Repr, Inhabited

/-- The phase of a sensor attempt (R37); the conversion wait holds the moment it began. -/
inductive PollPhase where
  | command
  | wait (since : Nat)
  | read
  deriving DecidableEq, Repr, Inhabited

/-- The poll that occupies the sensor bus (R36, R40): `addr` is the bus address it calls, `retry` is set in its second
attempt, `voided` under R45. -/
structure Poll where
  sensor : Nat
  addr : Nat
  retry : Bool := false
  phase : PollPhase := .command
  voided : Bool := false
  deriving DecidableEq, Repr, Inhabited

/-- What the sensor bus controller issues on the bus (R37, R38): conditions, bytes, the acknowledgement of a byte it
clocked in or its absence, and a recovery clock. -/
inductive BusSignal where
  | start | stop
  | byte (b : Byte)
  | ack | nack
  | recoveryClock
  deriving DecidableEq, Repr, Inhabited

/-- Nine recovery clocks and a stop condition (R38, R60). -/
def recovery : List BusSignal := List.replicate 9 .recoveryClock ++ [.stop]

/-- The sensor bus controller (R36): the poll in progress, the sensor whose poll started most recently, and what the
controller issued in the bus phase that ended last, in order (R37, R38; log entry 45). At the end of start-up that is
the recovery of R60. -/
structure Bus where
  poll : Option Poll := none
  last : Nat := 7
  sent : List BusSignal := recovery
  deriving DecidableEq, Repr, Inhabited

/-- The state of a region with the fields present only in that state (R48). -/
inductive RegionState where
  | sensors
  | held (since : Nat)
  | deflt
  | override (temp : Int) (hum : Nat)
  deriving DecidableEq, Repr, Inhabited

/-- A region record (R48). -/
structure Region where
  state : RegionState := .deflt
  temp : Int := 200
  hum : Nat := 50
  deriving DecidableEq, Repr, Inhabited

/-! ### Probe queue and measurement engine -/

/-- Measurement kinds (Figure 11-11). -/
inductive Kind where
  | survey | check | track | loopInt | loopExt
  deriving DecidableEq, Repr, Inhabited

/-- Entry classes (Figure 6-1). -/
inductive EntryClass where
  | host | auto
  deriving DecidableEq, Repr, Inhabited

/-- A queue entry (Figure 6-1). -/
structure Entry where
  zone : Nat
  cls : EntryClass
  kind : Kind
  listen : List Nat
  level : Option Int
  repeats : Option Nat
  admitted : Nat
  deriving DecidableEq, Repr, Inhabited

/-- Outcomes of a measurement (Figure 11-11). -/
inductive MeasureOutcome where
  | complete | cancelled | abortedHold | abortedMute | abortedReconfig | abortedClock | abortedReset
  | masked | noMics | removed
  deriving DecidableEq, Repr, Inhabited

/-- The standing of a microphone in the resolved listen set (R111). -/
inductive Standing where
  | heard | dropped | masked
  deriving DecidableEq, Repr, Inhabited

/-- The window of a microphone (R113): the whole period, or the samples centre − half to centre + half. -/
inductive Window where
  | whole
  | placed (centre : Int) (half : Nat)
  deriving DecidableEq, Repr, Inhabited

/-- An entry of the resolved listen set (R111) with its accumulator (R116): the sums of the first places of the
period, 0 beyond the list's end. `unused` is set once the microphone is made UNUSED during the flight (R155). -/
structure Listen where
  mic : Nat
  standing : Standing
  window : Window
  acc : List Int := []
  unused : Bool := false
  deriving DecidableEq, Repr, Inhabited

/-- The states of the measurement engine other than IDLE (R111). -/
inductive Phase where
  | quietWait | leadIn | capture | analyse | rampOut
  deriving DecidableEq, Repr, Inhabited

/-- The in-flight measurement (R111). The probe period is computed from the order (R112). `elapsed` counts the
samples of the present phase, in RAMP_OUT on from those of the phase it left (R127); `loopAcc` is the accumulator of a
LOOP_INT (R123). -/
structure Flight where
  zone : Nat
  cls : EntryClass
  kind : Kind
  admitted : Nat
  phase : Phase
  listen : List Listen
  order : Nat
  level : Int
  repeats : Nat
  attempt : Nat := 1
  ramp : Nat := 0
  quietSince : Option Nat := none
  pendingOutcome : Option MeasureOutcome := none
  noRetry : Bool := false
  elapsed : Nat := 0
  loopAcc : List Int := []
  deriving DecidableEq, Repr, Inhabited

/-! ### Microphones -/

/-- One flag for each health condition: used for the enables, the latched causes and the causes of one event. -/
structure Conditions where
  silent : Bool := false
  overload : Bool := false
  stuck : Bool := false
  deaf : Bool := false
  deriving DecidableEq, Repr, Inhabited

/-- The configuration fields of a microphone record (Figure 9-1). -/
structure MicCfg where
  inUse : Bool := false
  slot : Nat
  latency : Nat := 0
  region : Nat := 0
  enables : Conditions := ⟨true, true, true, true⟩
  deriving DecidableEq, Repr, Inhabited

/-- A microphone record (Figures 9-1 and 9-2). The state is UNUSED while `cfg.inUse` is clear, else DOWN while `down`
is set, else UP. `history` lists the most recent samples newest first (R151); `windowPos` counts the frames of the
overload window (R153). -/
structure Mic where
  cfg : MicCfg
  down : Bool := false
  latched : Conditions := {}
  ambient : Int := -1200
  silentMs : Nat := 0
  clip : Nat := 0
  ident : Nat := 0
  deaf : Nat := 0
  history : List Int := []
  windowPos : Nat := 0
  deriving DecidableEq, Repr, Inhabited

/-! ### Global settings, lines and stored image -/

/-- The thirteen global settings (Figure 11-7); a supervision time of 0 is off, `freeze` is the action FREEZE. -/
structure Globals where
  order : Nat := 16
  repeats : Nat := 4
  level : Int := -40
  pnrMin : Nat := 150
  ceiling : Int := -20
  defer : Nat := 60
  defTemp : Int := 200
  defHum : Nat := 50
  poll : Nat := 10
  hold : Nat := 900
  deadband : Nat := 2
  supTime : Nat := 0
  freeze : Bool := false
  deriving DecidableEq, Repr, Inhabited

/-- The stored fields of a control line record (R182). -/
structure LineCfg where
  general : Bool := false
  output : Bool := false
  high : Bool := true
  notice : Bool := false
  deriving DecidableEq, Repr, Inhabited

/-- A control line record (R182): `taken` is the taken level (true is high), `agree` counts the consecutive samples
that agree on the opposite level (R183). -/
structure Line where
  cfg : LineCfg := {}
  taken : Bool := true
  agree : Nat := 0
  deriving DecidableEq, Repr, Inhabited

/-- A path as the image holds it (R186). -/
structure ImagePath where
  zone : Nat
  mic : Nat
  dist : Nat
  origin : Origin
  deriving DecidableEq, Repr, Inhabited

/-- The contents of an image (R186): `hostMutes` and `bands` are indexed by zone. -/
structure Image where
  globals : Globals
  lines : Vector LineCfg 6
  sensors : Vector SensorCfg 8
  mics : Vector MicCfg 16
  zones : Vector ZoneCfg 48
  hostMutes : Vector Bool 48
  paths : List ImagePath
  bands : Vector (List Band) 48
  deriving DecidableEq, Repr, Inhabited

/-- What the non-volatile memory holds (R186): contents and their CRC-32. -/
structure StoredImage where
  contents : Image
  check : BitVec 32
  deriving DecidableEq, Repr, Inhabited

/-- The operation the store is running (R186, R187). -/
inductive StoreOp where
  | save (snapshot : Image)
  | load
  deriving DecidableEq, Repr

/-- The settings store (R186): `image` is absent when nothing readable stands there; `valid` is the image state;
`loaded` is the start-up store result LOADED (R188). -/
structure Store where
  image : Option StoredImage := none
  valid : Bool := false
  loaded : Bool := false
  op : Option StoreOp := none
  deriving DecidableEq, Repr, Inhabited

/-! ### Replies and notices -/

/-- Reply statuses (Figure 11-3). -/
inductive Status where
  | ok | accepted | clamped | busy | queueFull | duplicate | notFound | conflict | tableFull
  | badValue | badLength | unknownKind
  deriving DecidableEq, Repr, Inhabited

/-- A clamp item (R178): the band's place for EQ_SET, and the field identifier of Figure 11-4. -/
structure ClampItem where
  place : Option Nat
  ident : Nat
  deriving DecidableEq, Repr, Inhabited

/-- Link speeds (R188). -/
inductive LinkSpeed where
  | b115200 | b460800 | b921600 | b3000000
  deriving DecidableEq, Repr, Inhabited

/-- Supervision states (Figure 11-5). -/
inductive Supervision where
  | inactive | watching | lapsedNote | lapsedFreeze
  deriving DecidableEq, Repr, Inhabited

/-- The reply data of HELLO (R189). -/
structure HelloReport where
  device : Nat
  version : Nat
  speed : LinkSpeed
  loaded : Bool
  valid : Bool
  storeBusy : Bool
  seconds : Nat
  supervision : Supervision
  notices : Nat
  dropped : Bool
  abandoned : Nat
  badCheck : Nat
  overrun : Nat
  foreign : Nat
  deriving DecidableEq, Repr, Inhabited

/-- The reply data of ZONE_GET (R17). -/
structure ZoneReport where
  cfg : ZoneCfg
  hostMute : Bool
  effMute : Bool
  level : Nat
  dependants : List Nat
  target : Nat
  status : SolverStatus
  running : Nat
  transition : Transition
  deriving DecidableEq, Repr, Inhabited

/-- The reply data of PATH_GET in one-path form (R34). -/
structure PathReport where
  position : Nat
  path : Path
  temp : Int
  speed : Nat
  pred : Nat
  eff : Int
  deriving DecidableEq, Repr, Inhabited

/-- One entry of a PATH_GET listing (R35). -/
structure PathListEntry where
  position : Nat
  zone : Nat
  mic : Nat
  origin : Origin
  tracker : TrackerState
  deriving DecidableEq, Repr, Inhabited

/-- Microphone states (R149). -/
inductive MicState where
  | unused | up | down
  deriving DecidableEq, Repr, Inhabited

/-- The reply data of MIC_GET (R160). -/
structure MicReport where
  cfg : MicCfg
  state : MicState
  latched : Conditions
  ambient : Int
  silentMs : Nat
  clip : Nat
  ident : Nat
  deaf : Nat
  paths : Nat
  standing : Option Standing
  deriving DecidableEq, Repr, Inhabited

/-- The reply data of SENSOR_GET (R47): `pollRetry` is present while a poll of the sensor occupies the bus and says
whether it is in its retry. -/
structure SensorReport where
  sensor : Sensor
  ageSeconds : Option Nat
  dueMs : Option Nat
  pollRetry : Option Bool
  deriving DecidableEq, Repr, Inhabited

/-- The reply data of REGION_GET (R55). -/
structure RegionReport where
  state : RegionState
  temp : Int
  hum : Nat
  heldSinceSeconds : Option Nat
  holdRemaining : Option Nat
  mean : Option (Int × Nat)
  sensors : List (Nat × SensorState)
  deriving DecidableEq, Repr, Inhabited

/-- How an EQ_SET's new set was taken (R172). -/
inductive SetTaken where
  | applied | crossfade | pended (replaced : Bool)
  deriving DecidableEq, Repr, Inhabited

/-- The reply data of EQ_GET (R173). -/
structure EqReport where
  bands : List Band
  latestShelf : Nat
  mic : Option Nat
  dist : Option Nat
  humidity : Option Nat
  alpha : Option Nat
  airComp : Nat
  blending : Option (Nat × Nat × Nat)
  pendingShelf : Option Nat
  currentShelf : Nat
  deriving DecidableEq, Repr, Inhabited

/-- The flight as QUEUE_GET reports it (R109). -/
structure FlightReport where
  zone : Nat
  cls : EntryClass
  kind : Kind
  phase : Phase
  attempt : Nat
  deriving DecidableEq, Repr, Inhabited

/-- The blocking conditions of R110. -/
inductive Block where
  | frozen | hold | muted | noUpPath | waiting | limit
  deriving DecidableEq, Repr, Inhabited

/-- A line as LINE_GET reports it (R182). -/
structure LineReport where
  cfg : LineCfg
  taken : Bool
  asserted : Option Bool
  deriving DecidableEq, Repr, Inhabited

/-- The reply data of each command. That of MIC_SET is the use field (R159). -/
inductive ReplyData where
  | none
  | hello (r : HelloReport)
  | globals (g : Globals)
  | zone (r : ZoneReport)
  | pathSet (position : Nat) (created : Bool)
  | pathDrop (count : Nat)
  | pathOne (r : PathReport)
  | pathListing (total : Nat) (entries : List PathListEntry)
  | micSet (inUse : Bool)
  | mic (r : MicReport)
  | sensor (r : SensorReport)
  | region (r : RegionReport)
  | eqSet (taken : SetTaken)
  | eq (r : EqReport)
  | probe (position : Nat) (levelClamped repeatsClamped started : Bool)
  | cancel (count : Nat) (aborted : Bool)
  | entries (waiting autos : Nat) (list : List Entry) (flight : Option FlightReport) (hold frozen audio : Bool)
  | schedule (list : List (Nat × Nat × Option Block))
  | lines (list : List LineReport)
  deriving DecidableEq, Repr, Inhabited

/-- What the handling of a command answers: status, clamp items and reply data (R178). -/
structure Answer where
  status : Status
  clamps : List ClampItem := []
  data : ReplyData := .none
  deriving DecidableEq, Repr, Inhabited

/-- A reply (R177): its kind is the command's kind plus 0x80. -/
structure Reply where
  kind : Byte
  tag : Byte
  answer : Answer
  deriving DecidableEq, Repr, Inhabited

/-- Effects of an entry (Figure 11-11). -/
inductive Effect where
  | none | distanceSet | corrected | missCounted
  deriving DecidableEq, Repr, Inhabited

/-- An entry of the per-microphone list of MEASURE_DONE (R132). -/
structure DoneEntry where
  mic : Nat
  verdict : Verdict
  effect : Effect := .none
  arrival : Option Nat := .none
  pnr : Option Nat := .none
  tof : Option Int := .none
  deriving DecidableEq, Repr, Inhabited

/-- The content of a MEASURE_DONE notice (R131, R132): `loop` is PASS when true. -/
structure MeasureDone where
  zone : Nat
  kind : Kind
  cls : EntryClass
  outcome : MeasureOutcome
  attempts : Nat
  level : Int
  loop : Option Bool := none
  newLatency : Option Nat := none
  entries : List DoneEntry := []
  deriving DecidableEq, Repr, Inhabited

/-- The names of the region states, as a notice carries them (R54). -/
inductive RegionKind where
  | sensors | held | deflt | override
  deriving DecidableEq, Repr, Inhabited

/-- Results of a store operation (R186, R187). -/
inductive StoreResult where
  | ok | writeFault | checkFail
  deriving DecidableEq, Repr, Inhabited

/-- The notices (Figure 11-2). -/
inductive Notice where
  | measureDone (d : MeasureDone)                                                        -- R131
  | pathLock (zone mic : Nat) (locked : Bool) (prev new : TrackerState) (run : Nat) (correction : Int)
      (limit : Bool) (error : Option Int)                                                -- R144
  | zoneStatus (zone : Nat) (prev new : SolverStatus) (target : Nat) (missing : Option Missing)  -- R71
  | micDown (mic : Nat) (causes : Conditions) (ambient : Int) (silentMs clip ident deaf paths zones : Nat)  -- R157
  | sensorState (n : Nat) (prev new : SensorState) (fails : Nat) (lastFail : Option FailKind)
      (temp : Option Int) (hum : Option Nat) (region : Nat)                              -- R46
  | regionState (r : Nat) (prev new : RegionKind) (temp : Int) (hum fresh : Nat)         -- R54
  | lapse (freeze : Bool) (time ms : Nat)                                                -- R180
  | storeDone (save : Bool) (result : StoreResult) (paths : Option Nat)                  -- R186, R187
  | lineChange (line : Nat) (high : Bool) (seconds : Nat)                                -- R183
  deriving DecidableEq, Repr, Inhabited

/-- The frame the transmitter is sending (R179): a reply, or a notice with the dropped flag written into its header
byte when its transmission began. -/
inductive TxFrame where
  | reply (r : Reply)
  | notice (dropped : Bool) (n : Notice)
  deriving DecidableEq, Repr

/-! ### Control link -/

/-- A byte as the receive line carries it: `none` is a byte with a low stop bit (R175). -/
abbrev RxByte := Option Byte

/-- The frame receiver (R175): hunting; the first sync byte found, with its moment; or a frame under assembly, its
bytes after the sync pair in the order received and the moment of the last byte. -/
inductive RxState where
  | hunting
  | firstSync (time : Nat)
  | assembling (bytes : List Byte) (time : Nat)
  deriving DecidableEq, Repr, Inhabited

/-- A received command (R176). -/
structure RxCommand where
  kind : Byte
  tag : Byte
  body : List Byte
  deriving DecidableEq, Repr, Inhabited

/-- The control link (R175 to R181). -/
structure Link where
  rx : RxState := .hunting
  rxLine : List RxByte := []
  abandoned : Nat := 0
  badCheck : Nat := 0
  overrun : Nat := 0
  foreign : Nat := 0
  commands : List RxCommand := []
  reply : Option Reply := none
  tx : Option TxFrame := none
  outbox : List Notice := []
  dropped : Bool := false
  speed : LinkSpeed := .b115200
  resetting : Bool := false
  supervision : Supervision := .inactive
  timerFrom : Nat := 0
  lastGood : Option Nat := none
  deriving DecidableEq, Repr, Inhabited

/-! ### Time, pins and inputs -/

/-- The two clocks: the internal timebase since start-up in 1/48 ms, whether the audio frame clock is present, the
moment of its last frame (R90), and the frames since the last millisecond boundary (R78). -/
structure Clock where
  now : Nat := 0
  audio : Bool := true
  lastFrame : Nat := 0
  frames : Nat := 0
  deriving DecidableEq, Repr, Inhabited

/-- The levels at the strap and control line pins (bit n is line n, set for high). -/
structure Pins where
  strap0 : Bool := false
  strap1 : Bool := false
  levels : BitVec 6 := 63#6
  deriving DecidableEq, Repr, Inhabited

/-- What the outside world presents in one tick (log entry 7): an audio frame (one word for each input slot) or none,
a change of the line levels or none, and the bytes that arrive. -/
structure TickInput where
  frame : Option (List Int) := none
  levels : Option (BitVec 6) := none
  bytes : List RxByte := []
  deriving DecidableEq, Repr, Inhabited

/-! ### The machine -/

/-- The state of the part. `pending` is the queue of waiting commands, first in first out (log entry 1); `inputs` is
what the outside world will present, one entry a tick (log entry 7). -/
structure State where
  pending : List Instr
  inputs : List TickInput
  clock : Clock
  pins : Pins
  globals : Globals
  zones : Vector Zone 48
  paths : List Path
  sensors : Vector Sensor 8
  bus : Bus
  regions : Vector Region 8
  queue : List Entry
  due : Vector (Option Nat) 48
  flight : Option Flight
  mics : Vector Mic 16
  link : Link
  lines : Vector Line 6
  store : Store
  outSlots : Vector Int 48
  deriving DecidableEq, Repr

/-- Why the machine stops. -/
inductive Fault where
  /-- Raised by the meanings of UNKNOWN_KIND_COMMAND and FRAME_RECEIVED for a term that spells no event of the part (a
  kind the manual assigns or outside 0x01 to 0x3F; a frame whose body exceeds 1,024 bytes). Safe: the part has no such
  event (log entry 38). -/
  | illFormed
  deriving DecidableEq, Repr

/-- Why a command has no meaning. -/
inductive Refusal where
  /-- Raised by `exec` for a command without a meaning. No arm answers it. Safe. -/
  | notModelled (mnemonic : String)
  deriving DecidableEq, Repr

/-- The sensor records at start-up (Figure 3-1): bus address 0x40 plus the sensor number. -/
def sensorsAtStart : Vector Sensor 8 :=
  #v[{ cfg := { addr := 64 } }, { cfg := { addr := 65 } }, { cfg := { addr := 66 } }, { cfg := { addr := 67 } },
     { cfg := { addr := 68 } }, { cfg := { addr := 69 } }, { cfg := { addr := 70 } }, { cfg := { addr := 71 } }]

/-- The microphone records at start-up (Figures 9-1 and 9-2): input slot is the microphone number plus 16. -/
def micsAtStart : Vector Mic 16 :=
  #v[{ cfg := { slot := 16 } }, { cfg := { slot := 17 } }, { cfg := { slot := 18 } }, { cfg := { slot := 19 } },
     { cfg := { slot := 20 } }, { cfg := { slot := 21 } }, { cfg := { slot := 22 } }, { cfg := { slot := 23 } },
     { cfg := { slot := 24 } }, { cfg := { slot := 25 } }, { cfg := { slot := 26 } }, { cfg := { slot := 27 } },
     { cfg := { slot := 28 } }, { cfg := { slot := 29 } }, { cfg := { slot := 30 } }, { cfg := { slot := 31 } }]

/-- The machine right after reset: the end of start-up (R188) with no valid image, both straps low, lines 0 and 5 and
the pins of the others high from outside and the audio frame clock present (log entry 8). The part itself drives line 4
low from the start, since every region is in DEFAULT (R184). -/
def State.reset : State where
  pending := []
  inputs := []
  clock := {}
  pins := {}
  globals := {}
  zones := Vector.replicate 48 {}
  paths := []
  sensors := sensorsAtStart
  bus := {}
  regions := Vector.replicate 8 {}
  queue := []
  due := Vector.replicate 48 none
  flight := none
  mics := micsAtStart
  link := {}
  lines := #v[{}, {}, {}, {}, { taken := false }, {}]
  store := {}
  outSlots := Vector.replicate 48 0

end Sys2Proof.Machine
end

