-- ==== Sys2Proof/Config.lean ====
section
/-! DEFINITION. What the manual leaves open, as constants without a body: no proof can see a value of one, so a claim
holds whatever they are. Each names the log entry that declares it. -/

namespace Sys2Proof.Config

open Sys2Proof.Machine

/-- The number of bits of an input word (log entry 12): the manual names full scale (R115, R151, R153), not the width. -/
opaque wordBits : Nat

/-- The feedback polynomial of the maximal-length sequence of order `n` (R115), its coefficients as bits: the manual gives
none, and one that is not primitive is not taken (log entry 13). -/
opaque probeTaps : Nat → Nat

/-- Where in its period the sequence of order `n` starts (R115; log entry 13). -/
opaque probeSeed : Nat → Nat

/-- Whether a set bit of the sequence of order `n` is a negative sample (R115; log entry 13). -/
opaque probeFlip : Nat → Bool

/-- The whole number taken for the quotient of audio words `n / d` that is none (R83, R85, R115, R168), held to the two
next to it; the rounding is open (log entry 11). -/
opaque rounding : Int → Nat → Int

/-- The whole number taken for the probe amplitude of a level in dBFS (R115), held to the two next to it; the rounding is
open (log entry 11). -/
opaque probeAmplitude : Int → Int

/-- The value of a delay memory between two stored samples, at a delay in 1/48 subsample (R78); the interpolation is open
(log entry 11), but for silence (log entry 57). -/
opaque interpolate : List Int → Nat → Int

/-- The output of an enabled band for one sample, its filter memory given, 0 when cleared (R163, R164, R168); the filters
are open (log entry 11), but for silence through a cleared one (log entry 57). -/
opaque bandOut : Band → Nat → Int → Int

/-- The band's filter memory after that sample (log entry 11). -/
opaque bandNext : Band → Nat → Int → Nat

/-- The output word for a sum that lies outside the range of a word (log entry 39). -/
opaque overWord : Int → Int

/-- The bytes of a reply's data, for the replies whose layout the manual does not give (log entry 9). -/
opaque replyDataBytes : ReplyData → List Byte

/-- The bytes of a notice's body after its header byte, for the notices whose layout the manual does not give (log
entry 9). -/
opaque noticeBodyBytes : Notice → List Byte

/-- The tag of a notice's frame (log entry 10). -/
opaque noticeTag : Notice → Byte

/-- The bytes of an image's contents in the store (log entry 16). -/
opaque imageBytes : Image → List Byte

/-- Which of two statements of Figure 11-12 a MIC_SET body follows (log entry 15): the sizes of its fields, which sum to 9
bytes, where set; the length of 8 bytes where clear. -/
opaque micSetLong : Bool

/-- Which order of R60 and R187 a load follows (log entry 17): the global climate settings before the sensor configuration
where set, after it where clear. -/
opaque climateFirst : Bool

/-- The milliseconds a LAPSE notice carries when no good frame has been received since start-up (log entry 29), by the
moment of the expiry. -/
opaque lapseMs : Nat → Nat

end Sys2Proof.Config
end

