-- ==== Sys2Proof/Machine/Arith.lean ====
section
/-! DEFINITION. Whole-number arithmetic: the two rounding modes (00_scope, Rounding), limits, the rounded logarithm of
R119 and R151, the three checks (R39, R176, R186) and the byte order of R191. -/

namespace Sys2Proof.Machine

/-- `n / d` rounded nearest, ties up. -/
def roundNearest (n d : Nat) : Nat := (2 * n + d) / (2 * d)

/-- `n / d` rounded half away from zero. -/
def roundAway (n : Int) (d : Nat) : Int :=
  if 0 ≤ n then (roundNearest n.toNat d : Int) else -(roundNearest (-n).toNat d : Int)

/-- The value of `x` limited to `lo` to `hi`. -/
def limitInt (lo hi x : Int) : Int := if x < lo then lo else if hi < x then hi else x

/-- The value of `x` limited to `lo` to `hi`. -/
def limitNat (lo hi x : Nat) : Nat := if x < lo then lo else if hi < x then hi else x

/-- 100 × log10 (a / b) rounded to the nearest whole number, from 0 to `cap`: the number of steps n with
10^(2n − 1) at most (a / b)^200. `b` is above 0. The quotient ends in exactly one half for no a and b. -/
def logRound (a b cap : Nat) : Nat :=
  (List.range cap).countP fun i => decide (10 ^ (2 * i + 1) * b ^ 200 ≤ a ^ 200)

/-- One bit step of a CRC-8 with polynomial x⁸+x²+x+1 (R39). -/
def crc8Bit (c : BitVec 8) : BitVec 8 := if c.msb then (c <<< 1) ^^^ 7#8 else c <<< 1

/-- The CRC-8 of R39: initial value 0, no reflection, no final inversion. -/
def crc8 (bytes : List Byte) : BitVec 8 :=
  bytes.foldl (fun c b => crc8Bit (crc8Bit (crc8Bit (crc8Bit (crc8Bit (crc8Bit (crc8Bit (crc8Bit (c ^^^ b))))))))) 0#8

/-- One bit step of a CRC-16 with polynomial x¹⁶+x¹²+x⁵+1 (R176). -/
def crc16Bit (c : BitVec 16) : BitVec 16 := if c.msb then (c <<< 1) ^^^ 0x1021#16 else c <<< 1

/-- The CRC-16 of R176: initial value 0xFFFF, no reflection, no final inversion. -/
def crc16 (bytes : List Byte) : BitVec 16 :=
  bytes.foldl (fun (c : BitVec 16) (b : Byte) => crc16Bit (crc16Bit (crc16Bit (crc16Bit (crc16Bit (crc16Bit (crc16Bit (crc16Bit
    (c ^^^ (b.setWidth 16 <<< (8 : Nat))))))))))) 0xFFFF#16

/-- One bit step of a reflected CRC-32 with polynomial 0x04C11DB7 (R186). -/
def crc32Bit (c : BitVec 32) : BitVec 32 := if c.getLsbD 0 then (c >>> 1) ^^^ 0xEDB88320#32 else c >>> 1

/-- The CRC-32 of R186: initial value 0xFFFFFFFF, input and output reflected, a final inversion. -/
def crc32 (bytes : List Byte) : BitVec 32 :=
  ~~~ (bytes.foldl (fun c b => crc32Bit (crc32Bit (crc32Bit (crc32Bit (crc32Bit (crc32Bit (crc32Bit (crc32Bit
    (c ^^^ b.setWidth 32))))))))) 0xFFFFFFFF#32)

/-- The two bytes of a number, low byte first (R191). -/
def bytes2 (n : Nat) : List Byte := [BitVec.ofNat 8 n, BitVec.ofNat 8 (n / 256)]

/-- The four bytes of a number, low byte first (R191). -/
def bytes4 (n : Nat) : List Byte :=
  [BitVec.ofNat 8 n, BitVec.ofNat 8 (n / 256), BitVec.ofNat 8 (n / 65536), BitVec.ofNat 8 (n / 16777216)]

/-- The four bytes of a signed number in two's complement, low byte first (R191). -/
def bytes4s (n : Int) : List Byte := bytes4 (BitVec.ofInt 32 n).toNat

/-- The byte at an offset of a body. -/
def byteAt (b : List Byte) (i : Nat) : Nat := (b.getD i 0#8).toNat

/-- The signed byte at an offset of a body (R191). -/
def sbyteAt (b : List Byte) (i : Nat) : Int := (b.getD i 0#8).toInt

/-- The unsigned two-byte field at an offset of a body (R191). -/
def u16At (b : List Byte) (i : Nat) : Nat := byteAt b i + 256 * byteAt b (i + 1)

/-- The signed two-byte field at an offset of a body (R191). -/
def s16At (b : List Byte) (i : Nat) : Int := (BitVec.ofNat 16 (u16At b i)).toInt

/-- The unsigned four-byte field at an offset of a body (R191). -/
def u32At (b : List Byte) (i : Nat) : Nat := u16At b i + 65536 * u16At b (i + 2)

/-! ### Times of the internal timebase, in 1/48 ms -/

/-- One millisecond. -/
def tickMs : Nat := 48

/-- One second. -/
def tickSec : Nat := 48000

/-! ### Tables of a fixed number of records -/

/-- The record at an index; the index of an absent record gives the default record. -/
def tget {α : Type} [Inhabited α] {n : Nat} (v : Vector α n) (i : Nat) : α := v.toList.getD i default

/-- The table with the record at an index replaced. -/
def tset {α : Type} {n : Nat} (v : Vector α n) (i : Nat) (a : α) : Vector α n :=
  ⟨⟨v.toList.set i a⟩, by simp⟩

/-- The table with every record rewritten from its index. -/
def tmap {α β : Type} {n : Nat} (f : Nat → α → β) (v : Vector α n) : Vector β n :=
  ⟨⟨v.toList.zipIdx.map fun p => f p.2 p.1⟩, by simp⟩

end Sys2Proof.Machine
end

