-- ==== Sys2Proof/Machine/Ops.lean ====
section
/-! DEFINITION. The shared operations on the state: one update per field, reading and writing a record of a table, the
notice outbox, the reply slot and the transmitter (R177, R179). -/

namespace Sys2Proof.Machine

/-! ### One update per field -/

def State.withPending (s : State) (x : List Instr) : State := { s with pending := x }
def State.withInputs (s : State) (x : List TickInput) : State := { s with inputs := x }
def State.withClock (s : State) (x : Clock) : State := { s with clock := x }
def State.withPins (s : State) (x : Pins) : State := { s with pins := x }
def State.withGlobals (s : State) (x : Globals) : State := { s with globals := x }
def State.withZones (s : State) (x : Vector Zone 48) : State := { s with zones := x }
def State.withPaths (s : State) (x : List Path) : State := { s with paths := x }
def State.withSensors (s : State) (x : Vector Sensor 8) : State := { s with sensors := x }
def State.withBus (s : State) (x : Bus) : State := { s with bus := x }
def State.withRegions (s : State) (x : Vector Region 8) : State := { s with regions := x }
def State.withQueue (s : State) (x : List Entry) : State := { s with queue := x }
def State.withDue (s : State) (x : Vector (Option Nat) 48) : State := { s with due := x }
def State.withFlight (s : State) (x : Option Flight) : State := { s with flight := x }
def State.withMics (s : State) (x : Vector Mic 16) : State := { s with mics := x }
def State.withLink (s : State) (x : Link) : State := { s with link := x }
def State.withLines (s : State) (x : Vector Line 6) : State := { s with lines := x }
def State.withStore (s : State) (x : Store) : State := { s with store := x }
def State.withOutSlots (s : State) (x : Vector Int 48) : State := { s with outSlots := x }

/-! ### Records of the tables -/

def State.zone (s : State) (z : Nat) : Zone := tget s.zones z
def State.mic (s : State) (m : Nat) : Mic := tget s.mics m
def State.sensor (s : State) (n : Nat) : Sensor := tget s.sensors n
def State.region (s : State) (r : Nat) : Region := tget s.regions r
def State.line (s : State) (l : Nat) : Line := tget s.lines l
def State.dueAt (s : State) (z : Nat) : Option Nat := tget s.due z

def State.setZone (s : State) (z : Nat) (x : Zone) : State := s.withZones (tset s.zones z x)
def State.setMic (s : State) (m : Nat) (x : Mic) : State := s.withMics (tset s.mics m x)
def State.setSensor (s : State) (n : Nat) (x : Sensor) : State := s.withSensors (tset s.sensors n x)
def State.setRegion (s : State) (r : Nat) (x : Region) : State := s.withRegions (tset s.regions r x)
def State.setLine (s : State) (l : Nat) (x : Line) : State := s.withLines (tset s.lines l x)
def State.setDue (s : State) (z : Nat) (x : Option Nat) : State := s.withDue (tset s.due z x)

/-- Whole seconds since start-up. -/
def State.seconds (s : State) : Nat := s.clock.now / tickSec

/-- The state with the internal timebase at `t` at least: the moment a timed event takes place has come (log entry 2). -/
def State.reach (s : State) (t : Nat) : State := s.withClock { s.clock with now := max s.clock.now t }

/-! ### The outbox, the reply slot and the transmitter -/

/-- A notice is raised: it joins the outbox, or sets the dropped flag when the outbox holds 32 (R179). -/
def Link.raise (l : Link) (n : Notice) : Link :=
  if l.outbox.length < 32 then { l with outbox := l.outbox ++ [n] } else { l with dropped := true }

/-- A notice is raised (R179). -/
def State.raise (s : State) (n : Notice) : State := s.withLink (s.link.raise n)

/-- Notices are raised in order. -/
def State.raiseAll (s : State) (ns : List Notice) : State := ns.foldl State.raise s

/-- The free transmitter begins the waiting reply, else the oldest notice with the dropped flag written into it, which
is then cleared (R179). A busy transmitter goes on. -/
def Link.transmit (l : Link) : Link :=
  match l.tx, l.reply, l.outbox with
  | some _, _, _ => l
  | none, some r, _ => { l with tx := some (.reply r), reply := none }
  | none, none, n :: rest => { l with tx := some (.notice l.dropped n), outbox := rest, dropped := false }
  | none, none, [] => l

/-- The transmitter takes up its next frame if it is free: the end of every event (R179). -/
def State.settleTx (s : State) : State := s.withLink s.link.transmit

/-- The frame on the line has ended and the next begins (R179). -/
def Link.nextFrame (l : Link) : Link := { l with tx := none }.transmit

/-- The reply slot made empty: where a reply waits, the frame on the line has ended and the reply's transmission has
begun (R179; log entry 4). -/
def Link.freeSlot (l : Link) : Link := if l.reply.isSome then l.nextFrame else l

/-- The command handler takes a command (R177) from the command list, where it stands there; the reply slot is empty. -/
def State.takeCommand (s : State) (c : RxCommand) : State :=
  s.withLink { s.link.freeSlot with commands := s.link.commands.erase c }

/-- The reply is placed in the reply slot: the command's kind plus 0x80 and its tag (R177). -/
def State.placeReply (s : State) (c : RxCommand) (a : Answer) : State :=
  s.withLink { s.link with reply := some ⟨c.kind + 0x80#8, c.tag, a⟩ }

/-- A refusal, a status byte alone (R178). -/
def refusal (st : Status) : Answer := { status := st }

/-- An accepted command's answer: CLAMPED with the clamp items where there are any, else OK (R178). -/
def accepted (clamps : List ClampItem) (d : ReplyData) : Answer :=
  { status := if clamps.isEmpty then .ok else .clamped, clamps := clamps, data := d }

/-- The handling of one command (R177): after a RESET FULL no command is taken (R190); a body of a length that is not
allowed is answered BAD_LENGTH; otherwise the owning block examines the command and gives its answer. The reply is
placed within the event and the transmitter takes it up when it is free. -/
def handle (c : RxCommand) (lengthOk : Bool) (h : State → State × Answer) (s : State) : State :=
  if s.link.resetting then s
  else
    let s := s.takeCommand c
    let r := if lengthOk then h s else (s, refusal .badLength)
    (r.1.placeReply c r.2).settleTx

end Sys2Proof.Machine
end

