-- ==== Sys2Proof/Machine/Operands.lean ====
section
/-! DEFINITION. The operand forms of the commands: body lengths (Figure 11-12), the fields of each body with its
examination of codes and its clamping, and the row of the table each received command is. -/

namespace Sys2Proof.Machine

open Sys2Proof.Config

/-! ### Limits with clamp items (R10, R53, R95, R159, R172, R185) -/

/-- A signed value limited to a range, with the clamp item of its field when the limit replaced it (R178). -/
def clampInt (place : Option Nat) (ident : Nat) (lo hi v : Int) : Int × List ClampItem :=
  (limitInt lo hi v, if v < lo ∨ hi < v then [⟨place, ident⟩] else [])

/-- An unsigned value limited to a range, with the clamp item of its field when the limit replaced it (R178). -/
def clampNat (place : Option Nat) (ident lo hi v : Nat) : Nat × List ClampItem :=
  (limitNat lo hi v, if v < lo ∨ hi < v then [⟨place, ident⟩] else [])

/-! ### Body lengths -/

/-- The length of a MIC_SET body (log entry 15): the sum of its fields' sizes or the length of Figure 11-12. -/
def micSetLength : Nat := if Config.micSetLong then 9 else 8

/-- The body lengths Figure 11-12 allows for each assigned kind (R191); `false` too for a kind it does not assign. -/
def bodyLengthOk (kind : Nat) (b : List Byte) : Bool :=
  match kind with
  | 0x01 | 0x03 | 0x05 | 0x21 | 0x24 | 0x25 => b.length == 0
  | 0x02 | 0x09 | 0x11 | 0x12 | 0x15 | 0x17 | 0x19 | 0x1D | 0x1E => b.length == 1
  | 0x04 => b.length == 17
  | 0x08 => b.length == 28
  | 0x0A | 0x0D => b.length == 2
  | 0x0C => b.length == 6
  | 0x0E => b.length == 2 || b.length == 3
  | 0x10 => b.length == micSetLength
  | 0x14 => b.length == 4
  | 0x16 => b.length == 5
  | 0x18 => 2 ≤ b.length && b.length == 2 + 8 * byteAt b 1
  | 0x1C => 7 ≤ b.length && b.length == 7 + byteAt b 6
  | 0x20 => b.length == 5
  | _ => false

/-- The kinds Figure 11-2 assigns to commands. -/
def assignedKinds : List Nat :=
  [0x01, 0x02, 0x03, 0x04, 0x05, 0x08, 0x09, 0x0A, 0x0C, 0x0D, 0x0E, 0x10, 0x11, 0x12, 0x14, 0x15, 0x16, 0x17, 0x18,
   0x19, 0x1C, 0x1D, 0x1E, 0x20, 0x21, 0x24, 0x25]

/-- The row of the table that a received command is: by its kind (Figure 11-2) and, where one kind has two rows, by the
form its body names (Figure 11-12). -/
def RxCommand.row (c : RxCommand) : Instr :=
  match c.kind.toNat with
  | 0x01 => .hello c.tag c.body
  | 0x02 => if c.body = [2#8] then .resetAlign c.tag c.body else .resetFull c.tag c.body
  | 0x03 => .resume c.tag c.body
  | 0x04 => .globalSet c.tag c.body
  | 0x05 => .globalGet c.tag c.body
  | 0x08 => .zoneSet c.tag c.body
  | 0x09 => .zoneGet c.tag c.body
  | 0x0A => .zoneMute c.tag c.body
  | 0x0C => .pathSet c.tag c.body
  | 0x0D => .pathDrop c.tag c.body
  | 0x0E => if c.body.length = 3 then .pathGetListing c.tag c.body else .pathGetOne c.tag c.body
  | 0x10 => .micSet c.tag c.body
  | 0x11 => .micGet c.tag c.body
  | 0x12 => .micRestore c.tag c.body
  | 0x14 => .sensorSet c.tag c.body
  | 0x15 => .sensorGet c.tag c.body
  | 0x16 => if byteAt c.body 1 = 0 then .regionOverrideClear c.tag c.body else .regionOverrideSet c.tag c.body
  | 0x17 => .regionGet c.tag c.body
  | 0x18 => .eqSet c.tag c.body
  | 0x19 => .eqGet c.tag c.body
  | 0x1C => .probeRequest c.tag c.body
  | 0x1D => .probeCancel c.tag c.body
  | 0x1E => if byteAt c.body 0 = 1 then .queueGetSchedule c.tag c.body else .queueGetEntries c.tag c.body
  | 0x20 => .lineSet c.tag c.body
  | 0x21 => .lineGet c.tag c.body
  | 0x24 => .storeSave c.tag c.body
  | 0x25 => .storeLoad c.tag c.body
  | _ => .unknownKindCommand c.kind c.tag c.body

/-! ### ZONE_SET (Figures 1-1 and 11-8) -/

/-- The value of an optional field, present when its presence bit is set (R191). -/
def optField (present : Bool) (v : Nat) : Option Nat := if present then some v else none

/-- Whether an optional number is absent or below a bound. -/
def optBelow (v : Option Nat) (bound : Nat) : Bool := v.all fun x => x < bound

/-- Step 4 of Figure 1-3: the ranges of the fields that are refused and not clamped. -/
def zoneSetRanges (b : List Byte) : Bool :=
  let p := b.getD 2 0#8
  optBelow (optField (p.getLsbD 0) (byteAt b 3)) 32 && optBelow (optField (p.getLsbD 1) (byteAt b 4)) 48 &&
    optBelow (optField (p.getLsbD 2) (byteAt b 5)) 16 && byteAt b 6 < 8 && byteAt b 20 < 2

/-- The configuration a ZONE_SET with state ACTIVE carries, after the clamping of R10, with its clamp items in record
order. -/
def zoneSetCfg (b : List Byte) : ZoneCfg × List ClampItem :=
  let p := b.getD 2 0#8
  let base := clampNat none 6 0 768000 (u32At b 7)
  let trim := clampInt none 7 (-7680) 7680 (s16At b 11)
  let prec := clampNat none 8 0 23040 (u16At b 13)
  let lat := clampNat none 9 0 76800 (u32At b 15)
  let air := clampNat none 10 0 100 (byteAt b 19)
  let interval := clampNat none 12 10 3600 (u16At b 21)
  let gate := clampNat none 13 16 4800 (u16At b 23)
  let slew := clampNat none 14 1 160 (byteAt b 25)
  let xthr := clampNat none 15 48 4800 (u16At b 26)
  ({ active := true, feed := optField (p.getLsbD 0) (byteAt b 3), lead := optField (p.getLsbD 1) (byteAt b 4),
     mic := optField (p.getLsbD 2) (byteAt b 5), region := byteAt b 6, base := base.1, trim := trim.1, prec := prec.1,
     outLat := lat.1, airComp := air.1, tracking := byteAt b 20 == 1, interval := interval.1, gate := gate.1,
     slew := slew.1, xthr := xthr.1 },
   base.2 ++ trim.2 ++ prec.2 ++ lat.2 ++ air.2 ++ interval.2 ++ gate.2 ++ slew.2 ++ xthr.2)

/-! ### MIC_SET (Figures 9-1 and 11-12) -/

/-- The nine bytes of a MIC_SET body's fields in the order of Figure 11-12 (log entry 15): a body of eight bytes has three
of the input latency's four, the low ones. -/
def micSetNine (b : List Byte) : List Byte := if Config.micSetLong then b else b.take 6 ++ 0#8 :: b.drop 6

/-- Four condition flags from the low bits of a byte (Figure 11-12). -/
def conditionBits (x : Byte) : Conditions := ⟨x.getLsbD 0, x.getLsbD 1, x.getLsbD 2, x.getLsbD 3⟩

/-- The configuration a MIC_SET carries, after step 4 of R159, with its clamp items. -/
def micSetCfg (b : List Byte) : MicCfg × List ClampItem :=
  let lat := clampNat none 3 0 76800 (u32At b 3)
  ({ inUse := byteAt b 1 == 1, slot := byteAt b 2, latency := lat.1, region := byteAt b 7,
     enables := conditionBits (b.getD 8 0#8) }, lat.2)

/-! ### GLOBAL_SET (Figures 11-7 and 11-12) -/

/-- The settings a GLOBAL_SET carries, after the clamping of R185, with its clamp items in order. -/
def globalSetCfg (b : List Byte) : Globals × List ClampItem :=
  let order := clampNat none 1 13 16 (byteAt b 0)
  let repeats := clampNat none 2 1 16 (byteAt b 1)
  let level := clampInt none 3 (-60) (-20) (sbyteAt b 2)
  let pnr := clampNat none 4 60 400 (u16At b 3)
  let ceiling := clampInt none 5 (-60) 0 (sbyteAt b 5)
  let defer := clampNat none 6 5 600 (u16At b 6)
  let temp := clampInt none 7 (-300) 600 (s16At b 8)
  let hum := clampNat none 8 0 100 (byteAt b 10)
  let poll := clampNat none 9 2 60 (byteAt b 11)
  let hold := clampNat none 10 60 3600 (u16At b 12)
  let dead := clampNat none 11 0 20 (byteAt b 14)
  ({ order := order.1, repeats := repeats.1, level := level.1, pnrMin := pnr.1, ceiling := ceiling.1, defer := defer.1,
     defTemp := temp.1, defHum := hum.1, poll := poll.1, hold := hold.1, deadband := dead.1, supTime := byteAt b 15,
     freeze := byteAt b 16 == 1 },
   order.2 ++ repeats.2 ++ level.2 ++ pnr.2 ++ ceiling.2 ++ defer.2 ++ temp.2 ++ hum.2 ++ poll.2 ++ hold.2 ++ dead.2)

/-- The supervision time is one of the five and the action one of the two (R185). -/
def globalSetOk (b : List Byte) : Bool := [0, 1, 2, 5, 10].contains (byteAt b 15) && byteAt b 16 < 2

/-! ### EQ_SET (Figures 10-1 and 11-12) -/

/-- The band type of a code (Figure 11-12). -/
def bandType (x : Nat) : Option BandType :=
  match x with
  | 0 => some .peak
  | 1 => some .lowShelf
  | 2 => some .highShelf
  | 3 => some .lowCut
  | 4 => some .highCut
  | _ => none

/-- The bytes of band i of an EQ_SET body. -/
def bandBytes (b : List Byte) (i : Nat) : List Byte := (b.drop (2 + 8 * i)).take 8

/-- Step 3 of R172 for one band. -/
def bandOk (x : List Byte) : Bool := (bandType (byteAt x 0)).isSome && byteAt x 7 < 2

/-- One band after the clamping of R172, with its clamp items in field order. The gain of a cut is stored as 0.0, which
is not a clamp. -/
def bandOf (place : Nat) (x : List Byte) : Band × List ClampItem :=
  let t := (bandType (byteAt x 0)).getD .peak
  let cut := t == .lowCut || t == .highCut
  let freq := clampNat (some place) 2 20 20000 (u16At x 1)
  let gain := if cut then (0, []) else clampInt (some place) 3 (-180) 120 (s16At x 3)
  let q := clampNat (some place) 4 30 1000 (u16At x 5)
  ({ type := t, freq := freq.1, gain := gain.1, q := q.1, enabled := byteAt x 7 == 1 }, freq.2 ++ gain.2 ++ q.2)

/-- The bands of an EQ_SET body, each with its clamp items. -/
def eqSetBands (b : List Byte) : List (Band × List ClampItem) :=
  (List.range (byteAt b 1)).map fun i => bandOf i (bandBytes b i)

/-! ### PROBE_REQUEST (Figures 6-1 and 11-9) -/

/-- The kind of a PROBE_REQUEST: TRACK is the scheduler's own (R191). -/
def requestKind (x : Nat) : Option Kind :=
  match x with
  | 0 => some .survey
  | 1 => some .check
  | 3 => some .loopInt
  | 4 => some .loopExt
  | _ => none

/-- The listed microphones of a PROBE_REQUEST body. -/
def requestMics (b : List Byte) : List Nat := (b.drop 7).map BitVec.toNat

/-- Step 3 of Figure 6-2. -/
def requestMicsOk (k : Kind) (mics : List Nat) : Bool :=
  mics.length ≤ 16 && mics.all (fun m => m < 16) && decide mics.Nodup &&
    (k != .loopExt || mics.length == 1) && (k != .loopInt || mics.isEmpty)

/-- The level of a PROBE_REQUEST after clamping, absent when its presence bit is clear, with its clamp flag (R95). -/
def requestLevel (b : List Byte) : Option Int × Bool :=
  if (b.getD 2 0#8).getLsbD 0 then
    (some (limitInt (-60) (-20) (sbyteAt b 3)), decide (sbyteAt b 3 < -60 ∨ -20 < sbyteAt b 3))
  else (none, false)

/-- The repeats of a PROBE_REQUEST after clamping, absent when its presence bit is clear, with its clamp flag (R95). -/
def requestRepeats (b : List Byte) : Option Nat × Bool :=
  if (b.getD 2 0#8).getLsbD 1 then
    (some (limitNat 1 16 (byteAt b 4)), decide (byteAt b 4 < 1 ∨ 16 < byteAt b 4))
  else (none, false)

/-! ### Selectors (Figure 11-12) -/

/-- A selector: 0xFF is ANY or ALL, another byte a number. -/
def selector (x : Nat) : Option Nat := if x = 255 then none else some x

/-- A selector matches a number: ANY matches every number. -/
def selects (sel : Option Nat) (x : Nat) : Bool := sel.all fun y => y == x

end Sys2Proof.Machine
end

