-- ==== Sys2Proof/Machine/Flags.lean ====
section
/-! DEFINITION. The conditions the blocks read from one another: MUTE_ALL, HOLD and effective mute (R15, R101), the
freeze (R72), microphone states (R149), and the functions and levels of the control lines (Figure 11-6, R184). -/

namespace Sys2Proof.Machine

/-- MUTE_ALL is asserted while line 0 is DEDICATED and its taken level is low (R15). -/
def State.muteAll (s : State) : Bool := !(s.line 0).cfg.general && !(s.line 0).taken

/-- HOLD is asserted while line 5 is DEDICATED and its taken level is low (R101). -/
def State.holdOn (s : State) : Bool := !(s.line 5).cfg.general && !(s.line 5).taken

/-- A zone is effectively muted while it is ACTIVE and its host mute is on or MUTE_ALL is asserted (R15). -/
def State.effMuted (s : State) (z : Nat) : Bool := (s.zone z).cfg.active && ((s.zone z).hostMute || s.muteAll)

/-- Supervision is in LAPSED_FREEZE (R72, R181). -/
def State.frozen (s : State) : Bool := s.link.supervision == .lapsedFreeze

/-- The state of a microphone (R149). -/
def Mic.state (m : Mic) : MicState := if !m.cfg.inUse then .unused else if m.down then .down else .up

/-- A microphone is UP. -/
def Mic.up (m : Mic) : Bool := m.cfg.inUse && !m.down

/-- The PROBE_ACTIVE function (R130): from the start of the ramp-in to the end of the ramp-out of a measurement that
plays into a zone. -/
def State.probeActive (s : State) : Bool :=
  match s.flight with
  | none => false
  | some f => f.phase != .quietWait && f.kind != .loopInt

/-- The LAPSE function (Figure 11-5). -/
def State.lapseOn (s : State) : Bool :=
  s.link.supervision == .lapsedNote || s.link.supervision == .lapsedFreeze

/-- The NOTICE_PENDING function (R179). -/
def State.noticePending (s : State) : Bool := !s.link.outbox.isEmpty

/-- The CLIMATE_FAULT function (R54): a region is in DEFAULT. -/
def State.climateFault (s : State) : Bool := s.regions.toList.any fun r => r.state == .deflt

/-- Whether the dedicated function of lines 1 to 4 is asserted; absent for the input functions of lines 0 and 5 (R182). -/
def State.lineFunction (s : State) (l : Nat) : Option Bool :=
  match l with
  | 1 => some s.probeActive
  | 2 => some s.lapseOn
  | 3 => some s.noticePending
  | 4 => some s.climateFault
  | _ => none

/-- The level a line drives, high being true; absent when it drives nothing (R184): a DEDICATED output line drives low
while its function is asserted, a GENERAL output its output value. -/
def State.lineDrive (s : State) (l : Nat) : Option Bool :=
  let c := (s.line l).cfg
  if c.general then (if c.output then some c.high else none)
  else (s.lineFunction l).map fun asserted => !asserted

/-- The level of a line (R183): what the part drives where it drives it, else the level from outside. -/
def State.lineLevel (s : State) (l : Nat) : Bool := (s.lineDrive l).getD (s.pins.levels.getLsbD l)

end Sys2Proof.Machine
end

