-- ==== Sys2Proof/Machine/Acoustics.lean ====
section
/-! DEFINITION. Path temperature, speed of sound and path humidity (R57, R58), times of flight and distances (R28, R61,
R62), the shelf gain (R165), and finding a path by its key (R20). -/

namespace Sys2Proof.Machine

/-- The path record of a pair (R20). -/
def State.path (s : State) (z m : Nat) : Option Path := s.paths.find? fun p => p.zone == z && p.mic == m

/-- The path temperature of a zone and a microphone (R57). -/
def State.pathTemp (s : State) (z m : Nat) : Int :=
  limitInt (-300) 600
    (roundAway ((s.region (s.zone z).cfg.region).temp + (s.region (s.mic m).cfg.region).temp) 2)

/-- The path humidity of a zone and a microphone (R57). -/
def State.pathHum (s : State) (z m : Nat) : Nat :=
  roundNearest ((s.region (s.zone z).cfg.region).hum + (s.region (s.mic m).cfg.region).hum) 2

/-- The speed of sound at a path temperature, in millimetres per second (R58). -/
def speedOfSound (t : Int) : Nat := (331300 + roundAway (606 * t) 10).toNat

/-- The predicted time of flight of a distance at a path temperature, in subsamples (R61). -/
def predicted (dist : Nat) (t : Int) : Nat := roundNearest (dist * 768000) (speedOfSound t)

/-- The predicted time of flight of a path (R61). -/
def State.pred (s : State) (p : Path) : Nat := predicted p.dist (s.pathTemp p.zone p.mic)

/-- The effective time of flight of a path (R62). -/
def State.tofEff (s : State) (p : Path) : Int := (s.pred p : Int) + p.correction

/-- The distance a time of flight of at least 0 implies at a path temperature (R28, R120). -/
def impliedDist (tof : Nat) (t : Int) : Nat := roundNearest (tof * speedOfSound t) 768000

/-- The absorption figure of a path humidity, in millidecibels per metre (Figure 10-2). -/
def absorption (hum : Nat) : Nat := if hum < 30 then 160 else if hum < 50 then 110 else if hum < 70 then 80 else 60

/-- The shelf gain of a distance at a path humidity and an air compensation, in tenths of a dB (R165). -/
def shelfGain (dist hum airComp : Nat) : Nat := min 120 (roundNearest (dist * absorption hum * airComp) 10000000)

/-- The shelf gain of a zone: 0 without a listening microphone or without the path to it (R165). -/
def State.shelf (s : State) (z : Nat) : Nat :=
  match (s.zone z).cfg.mic with
  | none => 0
  | some m =>
    match s.path z m with
    | none => 0
    | some p => shelfGain p.dist (s.pathHum z m) (s.zone z).cfg.airComp

end Sys2Proof.Machine
end

