-- ==== Sys2Proof/Machine/DelayLine.lean ====
section
/-! DEFINITION. Delay lines, mute stages and equalisers as operations on one zone record: taking up a target (R79 to
R84, R86), the mute stage (R85), and taking up a complete set (R167, R169). -/

namespace Sys2Proof.Machine

/-- The size of a difference of two delays. -/
def absDiff (a b : Nat) : Nat := if a ≤ b then b - a else a - b

/-- A target evaluated against the running delay (R79): a difference of 0 gives STEADY, one of at most the crossfade
threshold times 16 a glide, a larger one a crossfade from the running delay. -/
def Zone.evaluate (z : Zone) (t : Nat) : Zone :=
  let d := absDiff t z.running
  if d = 0 then { z with transition := .steady }
  else if d ≤ z.cfg.xthr * 16 then { z with transition := .glide }
  else { z with transition := .xfade z.running t 0 }

/-- A target change reaches the delay line: set directly while the stage is CLOSED (R86), evaluated in STEADY and GLIDE
(R79, R81), waiting in XFADE (R84), not taken by a retiring zone (R89). -/
def Zone.takeTarget (z : Zone) (t : Nat) : Zone :=
  if z.retiring then z
  else if z.stage = .closed then { z with running := t, transition := .steady }
  else
    match z.transition with
    | .xfade _ _ _ => z
    | _ => z.evaluate t

/-- The end of a delay crossfade (R83, R84): the running delay becomes the destination, at which the line reads from then on
(R78), and the target is evaluated; a retiring zone stays STEADY there (R89). -/
def Zone.endXfade (z : Zone) : Zone :=
  match z.transition with
  | .xfade _ d _ =>
    let z := { z with running := d, slide := none, transition := .steady }
    if z.retiring then z else z.evaluate z.target
  | _ => z

/-- One glide step (R80): the running delay moves toward the target by the smaller of the slew and the remaining
difference and the zone is STEADY when it reaches it. `slide` keeps the value the read point leaves (R78). -/
def Zone.glideStep (z : Zone) : Zone :=
  match z.transition with
  | .glide =>
    let r := if z.running ≤ z.target then z.running + min z.cfg.slew (z.target - z.running)
             else z.running - min z.cfg.slew (z.running - z.target)
    { z with running := r, slide := some z.running, transition := if r = z.target then .steady else .glide }
  | _ => { z with slide := none }

/-- The mute stage as the zone becomes effectively muted (R85). The stage of a retiring zone runs its own fade-out
(R13, R89). -/
def Zone.beginMute (z : Zone) : Zone :=
  if z.retiring then z
  else
    match z.stage with
    | .opened | .fadingIn => { z with stage := .fadingOut }
    | _ => z

/-- The mute stage begins its fade-in from its present position (R85), with `audio` the presence of the audio frame
clock: while the clock is absent the stage stays CLOSED (R90). -/
def Zone.beginUnmute (audio : Bool) (z : Zone) : Zone :=
  if z.retiring || !audio then z
  else
    match z.stage with
    | .closed | .fadingOut => { z with stage := .fadingIn }
    | _ => z

/-! ### Equaliser -/

/-- The latest set (R162). -/
def Equaliser.latest (e : Equaliser) : EqSet :=
  match e.pendingSet, e.xfade with
  | some p, _ => p
  | none, some x => x.dest
  | none, none => e.current

/-- A set applied at once (R167): the filter memories are cleared. -/
def Equaliser.applyNow (e : Equaliser) (c : EqSet) : Equaliser :=
  { e with current := c, xfade := none, pendingSet := none, memA := [], memB := [] }

/-- The filter memories of both chains are cleared. -/
def Equaliser.clearFilters (e : Equaliser) : Equaliser := { e with memA := [], memB := [] }

/-- A new set reaches the equaliser of a zone (R167). -/
def Zone.takeSet (z : Zone) (c : EqSet) : Zone :=
  if z.stage = .closed then { z with eq := z.eq.applyNow c }
  else
    match z.eq.xfade with
    | none => { z with eq := { z.eq with xfade := some ⟨z.eq.current, c, 0⟩, pendingSet := none, memB := [] } }
    | some _ => { z with eq := { z.eq with pendingSet := some c } }

/-- How a new set would be taken (R172). -/
def Zone.howTaken (z : Zone) : SetTaken :=
  if z.stage = .closed then .applied
  else
    match z.eq.xfade with
    | none => .crossfade
    | some _ => .pended z.eq.pendingSet.isSome

/-- The end of an equaliser crossfade (R168): the destination becomes current, its chain goes on with its memories, and
a pending set begins its crossfade at once. -/
def Equaliser.endXfade (e : Equaliser) : Equaliser :=
  match e.xfade with
  | none => e
  | some x =>
    { e with current := x.dest, memA := e.memB, memB := [], pendingSet := none,
             xfade := e.pendingSet.map fun p => ⟨x.dest, p, 0⟩ }

/-- The completion of a fade-out (R169): the equaliser is SETTLED at its latest set. A pending set that becomes current
starts with cleared filter memories; else the chain of the current set goes on with its own, the destination's where a
crossfade ends (DESIGN CHOICE: log entry 55). -/
def Equaliser.settle (e : Equaliser) : Equaliser :=
  match e.xfade, e.pendingSet with
  | none, none => e
  | none, some p => e.applyNow p
  | some x, none => { e with current := x.dest, xfade := none, memA := e.memB, memB := [] }
  | some _, some p => e.applyNow p

/-- The start-up values of an equaliser, with the host band list kept (R162, R171; log entry 27). -/
def Equaliser.cleared (e : Equaliser) : Equaliser := { bands := e.bands }

/-! ### Fades complete -/

/-- The completion of the fade-out of a zone that is not retiring (R86, R169): the running delay stands at the target,
STEADY, and the equaliser is SETTLED. -/
def Zone.close (z : Zone) : Zone :=
  { z with stage := .closed, fade := 0, running := z.target, slide := none, transition := .steady, eq := z.eq.settle }

/-- The values a retiring zone takes when its stage reaches CLOSED (R13 step 6, R89, R171). The delay memory keeps its
samples: R77 holds the most recent ones and R89 clears none, while R88 says that an activated zone plays silence for its
running delay (DESIGN CHOICE: log entry 48). -/
def Zone.finishRetire (z : Zone) : Zone :=
  { z with stage := .closed, fade := 0, running := 0, slide := none, transition := .steady, eq := z.eq.cleared, retiring := false }

/-- The direct setting of an activated zone with its stage CLOSED (R11, R88, R170): running delay at the target, first
set applied, and the fade-in begun unless the zone is effectively muted or the audio frame clock is absent. -/
def Zone.activate (muted audio : Bool) (shelf : Nat) (z : Zone) : Zone :=
  let z := { z with running := z.target, transition := .steady,
                    eq := { z.eq with current := ⟨z.eq.bands, shelf⟩, xfade := none, pendingSet := none,
                                      memA := [], memB := [] } }
  if muted then z else z.beginUnmute audio

/-- A mute stage reaches CLOSED, by a fade-out or by the loss of the audio frame clock (R86, R89, R90): a retiring zone
takes its reset values, and its pending activation follows when it has been made ACTIVE again. -/
def Zone.reachClosed (muted audio : Bool) (shelf : Nat) (z : Zone) : Zone :=
  if z.retiring then
    if z.cfg.active then z.finishRetire.activate muted audio shelf else z.finishRetire
  else z.close

end Sys2Proof.Machine
end

