-- ==== Sys2Proof/Machine/Solver.lean ====
section
/-! DEFINITION. Lead chains (R6, R7), the target of a zone (R63 to R67), its recomputation with the hand-over to the
delay line and the ZONE_STATUS notices (R68, R69, R71), the supervision freeze (R72 to R74), and the sets that follow
from a changed shelf gain (R166). -/

namespace Sys2Proof.Machine

/-- The numbers of the zones. -/
def zoneNumbers : List Nat := List.range 48

/-- The dependants of a zone, in ascending order (R6). -/
def State.dependants (s : State) (z : Nat) : List Nat :=
  zoneNumbers.filter fun d => (s.zone d).cfg.active && (s.zone d).cfg.lead == some z

/-- The level of an ACTIVE zone (R6), following at most `fuel` leads. -/
def State.levelFrom (s : State) : Nat → Nat → Nat
  | 0, _ => 1
  | fuel + 1, z =>
    match (s.zone z).cfg.lead with
    | none => 1
    | some l => 1 + s.levelFrom fuel l

/-- The level of a zone, 0 for an UNUSED one (R6, R17). -/
def State.level (s : State) (z : Nat) : Nat := if (s.zone z).cfg.active then s.levelFrom 48 z else 0

/-- The height of a zone over its current dependants (R6), to at most `fuel` levels. -/
def State.heightFrom (s : State) : Nat → Nat → Nat
  | 0, _ => 1
  | fuel + 1, z => 1 + ((s.dependants z).map (s.heightFrom fuel)).foldl max 0

/-- The height of a zone; chains are no deeper than four levels (R6). An UNUSED zone has height 1 (R7). -/
def State.height (s : State) (z : Nat) : Nat := s.heightFrom 5 z

/-- The cycle walk of R7: from `l` upward through the leads, whether `z` appears. -/
def State.walkMeets (s : State) (z : Nat) : Nat → Nat → Bool
  | 0, l => l == z
  | fuel + 1, l =>
    l == z ||
      match (s.zone l).cfg.lead with
      | none => false
      | some l' => s.walkMeets z fuel l'

/-- The chain checks of R7 for a zone asked to be ACTIVE with lead `l` and listening microphone `m`. -/
def State.chainOk (s : State) (z l : Nat) (m : Option Nat) : Bool :=
  !s.walkMeets z 48 l && (s.zone l).cfg.active && m.isSome && s.level l + 1 + s.height z - 1 ≤ 4

/-! ### Computing targets -/

/-- A target, its status and the missing-term indication. -/
structure Solution where
  target : Nat
  status : SolverStatus
  missing : Missing
  deriving DecidableEq, Repr, Inhabited

/-- The clamp of R66: the sum limited to 0 to 768,000, with the status a sum within range gives. -/
def clampTarget (sum : Int) (inRange : SolverStatus) : Solution :=
  if sum < 0 then ⟨0, .clampedLow, {}⟩
  else if 768000 < sum then ⟨768000, .clampedHigh, {}⟩
  else ⟨sum.toNat, inRange, {}⟩

/-- A dependent zone's target from its lead's target and its two term paths, where they exist (R65, R67). -/
def State.solveDependent (s : State) (z : Nat) (leadTarget : Nat) (lead own : Option Path) : Solution :=
  match lead, own with
  | some pl, some po =>
    clampTarget ((leadTarget : Int) + s.tofEff pl - s.tofEff po + (s.zone z).cfg.prec + (s.zone z).cfg.trim) .aligned
  | _, _ => ⟨(s.zone z).target, .noPath, ⟨lead.isNone, own.isNone⟩⟩

/-- The target, status and missing-term indication a zone holds. -/
def State.stored (s : State) (z : Nat) : Solution := ⟨(s.zone z).target, (s.zone z).status, (s.zone z).missing⟩

/-- Whether a zone is among the selected zones or below one of them (R6, R68), following at most `fuel` leads. -/
def State.below (s : State) (sel : Nat → Bool) : Nat → Nat → Bool
  | 0, z => sel z
  | fuel + 1, z =>
    sel z ||
      match (s.zone z).cfg.lead with
      | none => false
      | some l => s.below sel fuel l

/-- The solution of a zone when the selected zones and every zone below them are recomputed (R64, R65, R68): a
dependant is computed from its lead's newly computed target. -/
def State.solve (s : State) (sel : Nat → Bool) : Nat → Nat → Solution
  | 0, z => s.stored z
  | fuel + 1, z =>
    if s.below sel 48 z then
      match (s.zone z).cfg.lead with
      | none => clampTarget ((s.zone z).cfg.base + (s.zone z).cfg.trim) .free
      | some l =>
        match (s.zone z).cfg.mic with
        | none => ⟨(s.zone z).target, .noPath, ⟨true, true⟩⟩
        | some m => s.solveDependent z (s.solve sel fuel l).target (s.path l m) (s.path z m)
    else s.stored z

/-- A zone takes a solution: a changed target is handed to its delay line (R69). -/
def Zone.takeSolution (zn : Zone) (x : Solution) : Zone :=
  let zn' := { zn with target := x.target, status := x.status, missing := x.missing }
  if x.target = zn.target then zn' else zn'.takeTarget x.target

/-- The ZONE_STATUS notice of a zone, where its status changed (R71). -/
def statusNotice (z : Nat) (old new : Zone) : List Notice :=
  if new.cfg.active && old.status != new.status then
    [.zoneStatus z old.status new.status new.target (if new.status = .noPath then some new.missing else none)]
  else []

/-- The zone table after a recomputation of the selected zones and every zone below them (R68). -/
def State.resolved (s : State) (sel : Nat → Bool) : Vector Zone 48 :=
  tmap (fun z zn => if zn.cfg.active then zn.takeSolution (s.solve sel 48 z) else zn) s.zones

/-- A recomputed zone table is adopted, with the ZONE_STATUS notices in ascending zone order (R71). -/
def State.adopt (s : State) (zs : Vector Zone 48) : State :=
  (s.withZones zs).raiseAll (zoneNumbers.flatMap fun z => statusNotice z (s.zone z) (tget zs z))

/-- The targets of the selected zones and of every zone below them are recomputed (R68) and handed to the delay lines.
During a freeze the solver holds every target (R72). -/
def State.recompute (s : State) (sel : Nat → Bool) : State := if s.frozen then s else s.adopt (s.resolved sel)

/-- The recomputation of start-up, with no notice (R75). -/
def State.recomputeQuietly (s : State) (sel : Nat → Bool) : State := s.withZones (s.resolved sel)

/-- Every zone is selected. -/
def allZones (_ : Nat) : Bool := true

/-! ### The freeze -/

/-- The solver enters the freeze (R72): each ACTIVE zone's status is saved and shown as HELD_FROZEN. -/
def Zone.freeze (zn : Zone) : Zone :=
  if zn.cfg.active then { zn with held := zn.status, status := .heldFrozen } else zn

/-- The held status returns before the recomputation that ends the freeze (R74). -/
def Zone.thaw (zn : Zone) : Zone :=
  if zn.cfg.active then { zn with status := zn.held } else zn

/-- Supervision after a lapse ends by a command or a reset (R181): WATCHING with the timer started at that moment, or
INACTIVE if the supervision time is off. -/
def State.startWatching (s : State) : State :=
  s.withLink { s.link with
    supervision := if s.globals.supTime = 0 then .inactive else .watching, timerFrom := s.clock.now }

/-- Supervision leaves any lapse (R181, R190); the held statuses return when it was a freeze. -/
def State.leaveLapse (s : State) : State :=
  match s.link.supervision with
  | .lapsedFreeze => (s.withZones (tmap (fun _ zn => zn.thaw) s.zones)).startWatching
  | .lapsedNote => s.startWatching
  | _ => s

/-! ### Sets formed from a changed shelf gain -/

/-- The new set of a zone under R166, taken when it differs from the latest set. A zone that is UNUSED or awaits the
end of its retirement fade-out forms none (R166, R171). -/
def Zone.reform (zn : Zone) (shelf : Nat) : Zone :=
  if zn.cfg.active && !zn.retiring then
    if zn.eq.latest = ⟨zn.eq.bands, shelf⟩ then zn else zn.takeSet ⟨zn.eq.bands, shelf⟩
  else zn

/-- The selected zones form a new set where their bands or shelf gain changed (R166). The equaliser is not held by a
freeze. -/
def State.reformSets (s : State) (sel : Nat → Bool) : State :=
  s.withZones (tmap (fun z zn => if sel z then zn.reform (s.shelf z) else zn) s.zones)

/-! ### What depends on paths and regions -/

/-- The zones whose target draws a term from one of the paths given by key (Figure 2-3, Figure 4-2). -/
def State.zonesOnPaths (s : State) (keys : List (Nat × Nat)) (z : Nat) : Bool :=
  match (s.zone z).cfg.lead, (s.zone z).cfg.mic with
  | some l, some m => keys.contains (z, m) || keys.contains (l, m)
  | _, _ => false

/-- The zones whose shelf is computed from one of the paths given by key (Figure 2-3). -/
def State.shelvesOnPaths (s : State) (keys : List (Nat × Nat)) (z : Nat) : Bool :=
  match (s.zone z).cfg.mic with
  | some m => keys.contains (z, m)
  | none => false

/-- The path table hands a change of distances, creations and removals to the solver and the equaliser (R24). -/
def State.pathsChanged (s : State) (keys : List (Nat × Nat)) : State :=
  let s := s.reformSets (s.shelvesOnPaths keys)
  s.recompute (s.zonesOnPaths keys)

/-- The zones with a term path that touches one of the given regions (Figure 4-2). -/
def State.zonesInRegions (s : State) (rs : Nat → Bool) (z : Nat) : Bool :=
  match (s.zone z).cfg.lead, (s.zone z).cfg.mic with
  | some l, some m => rs (s.zone z).cfg.region || rs (s.zone l).cfg.region || rs (s.mic m).cfg.region
  | _, _ => false

/-- The zones whose shelf reads the humidity of one of the given regions (Figure 10-3). -/
def State.shelvesInRegions (s : State) (rs : Nat → Bool) (z : Nat) : Bool :=
  match (s.zone z).cfg.mic with
  | some m => rs (s.zone z).cfg.region || rs (s.mic m).cfg.region
  | none => false

/-- The climate unit hands changed published values to the solver and the equaliser (R59): `old` is the region table
before the event. A change of humidity alone moves no target (R68), a change of temperature alone forms no set (R166). -/
def State.regionsChanged (s : State) (old : Vector Region 8) : State :=
  let temp := fun r => (tget old r).temp != (s.region r).temp
  let hum := fun r => (tget old r).hum != (s.region r).hum
  let s := s.reformSets (s.shelvesInRegions hum)
  s.recompute (s.zonesInRegions temp)

end Sys2Proof.Machine
end

