-- ==== Sys2Proof/Machine/Climate.lean ====
section
/-! DEFINITION. The climate unit: sensor records and their states (R41 to R46), the sensor bus controller (R36 to R40,
R45), regions and their re-evaluation (R48 to R56). -/

namespace Sys2Proof.Machine

/-! ### Notices -/

/-- The name of a region's state. -/
def RegionState.kind : RegionState → RegionKind
  | .sensors => .sensors
  | .held _ => .held
  | .deflt => .deflt
  | .override _ _ => .override

/-- The FRESH sensors of a region (R49). -/
def State.freshIn (s : State) (r : Nat) : List Sensor :=
  s.sensors.toList.filter fun x => x.state == .fresh && x.cfg.region == r

/-- The SENSOR_STATE notice of a sensor that left the state `prev` (R46). -/
def State.sensorNotice (s : State) (n : Nat) (prev : SensorState) : Notice :=
  let x := s.sensor n
  .sensorState n prev x.state x.fails x.lastFail (x.reading.map (·.temp)) (x.reading.map (·.hum)) x.cfg.region

/-- The SENSOR_STATE notice is raised when the sensor's state changed (R42, R46). -/
def State.noteSensor (s : State) (n : Nat) (prev : SensorState) : State :=
  if (s.sensor n).state = prev then s else s.raise (s.sensorNotice n prev)

/-- A region takes a new record; a change of state raises REGION_STATE (R54). -/
def State.enterRegion (s : State) (r : Nat) (x : Region) : State :=
  let prev := (s.region r).state.kind
  let s := s.setRegion r x
  if x.state.kind = prev then s
  else s.raise (.regionState r prev x.state.kind x.temp x.hum (s.freshIn r).length)

/-! ### Regions -/

/-- The sensor mean of some FRESH sensors (R49): temperatures are first limited to −300 to +600. -/
def sensorMean (xs : List Sensor) : Option (Int × Nat) :=
  if xs.isEmpty then none
  else
    some (roundAway ((xs.map fun x => limitInt (-300) 600 ((x.reading.map (·.temp)).getD 0)).sum) xs.length,
      roundNearest ((xs.map fun x => (x.reading.map (·.hum)).getD 0).sum) xs.length)

/-- A region publishes its mean in SENSORS under the deadband (R50). -/
def Region.publish (x : Region) (deadband : Nat) (mean : Int × Nat) : Region :=
  { x with temp := if deadband ≤ (mean.1 - x.temp).natAbs then mean.1 else x.temp, hum := mean.2 }

/-- The re-evaluation of a region (R49 to R52). A region in OVERRIDE is not re-evaluated. -/
def State.reevaluate (s : State) (r : Nat) : State :=
  let x := s.region r
  match x.state, sensorMean (s.freshIn r) with
  | .override _ _, _ => s
  | .sensors, some m => s.enterRegion r (x.publish s.globals.deadband m)
  | .sensors, none => s.enterRegion r { x with state := .held s.clock.now }
  | _, some m => s.enterRegion r ⟨.sensors, m.1, m.2⟩
  | _, none => s

/-- A region enters DEFAULT and publishes the defaults (R52). -/
def State.enterDefault (s : State) (r : Nat) : State :=
  s.enterRegion r ⟨.deflt, s.globals.defTemp, s.globals.defHum⟩

/-- The regions of a list are re-evaluated in order. -/
def State.reevaluateAll (s : State) (rs : List Nat) : State := rs.foldl State.reevaluate s

/-! ### Sensors -/

/-- A poll in progress of sensor `n` is voided (R45): in its conversion wait it ends at once, in another phase it runs to
its stop condition. -/
def State.voidPoll (s : State) (n : Nat) : State :=
  match s.bus.poll with
  | none => s
  | some p =>
    if p.sensor = n then
      match p.phase with
      | .wait _ => s.withBus { s.bus with poll := none }
      | _ => s.withBus { s.bus with poll := some { p with voided := true } }
    else s

/-- The sensor record as SENSOR_SET leaves it (R44). Enabling and a new bus address clear the reading and make the
sensor due at once; disabling clears it and removes the due time. -/
def Sensor.configure (x : Sensor) (c : SensorCfg) (now : Nat) : Sensor :=
  if !c.enabled then
    if x.cfg.enabled then { cfg := c } else { x with cfg := c }
  else if !x.cfg.enabled || x.cfg.addr != c.addr then { cfg := c, state := .stale, due := some now }
  else { x with cfg := c }

/-- The regions whose FRESH sensors a configuration touches (R44, R49): the old region of a FRESH sensor that leaves it,
then the new region of one that joins it. -/
def Sensor.touched (old new : Sensor) : List Nat :=
  if old.state = .fresh then
    if new.state = .fresh then
      if old.cfg.region = new.cfg.region then [] else [old.cfg.region, new.cfg.region]
    else [old.cfg.region]
  else []

/-- A sensor's configuration fields are written with the effects of an accepted SENSOR_SET on the sensor (R44, R45) and
its SENSOR_STATE notice. The regions it touches are left to the caller. -/
def State.configureSensor (s : State) (n : Nat) (c : SensorCfg) : State :=
  let old := s.sensor n
  let s := if old.cfg.enabled && (!c.enabled || old.cfg.addr != c.addr) then s.voidPoll n else s
  (s.setSensor n (old.configure c s.clock.now)).noteSensor n old.state

/-- A good read is applied (R40, R42): reading, failures 0 and FRESH, then the region is re-evaluated (R49). -/
def State.goodRead (s : State) (n : Nat) (temp : Int) (hum : Nat) : State :=
  let old := s.sensor n
  let s := (s.setSensor n { old with state := .fresh, reading := some ⟨temp, hum, s.clock.now⟩, fails := 0 }).noteSensor
    n old.state
  (s.reevaluate old.cfg.region).regionsChanged s.regions

/-- A FRESH sensor's region loses it (R49). -/
def State.lostFresh (s : State) (old : Sensor) : State :=
  if old.state = .fresh then (s.reevaluate old.cfg.region).regionsChanged s.regions else s

/-- A counted failure (R40, R42): the third makes the sensor FAILED. -/
def State.countedFailure (s : State) (n : Nat) (k : FailKind) : State :=
  let old := s.sensor n
  let fails := min 3 (old.fails + 1)
  let s := s.setSensor n { old with fails := fails, lastFail := some k,
                                    state := if fails = 3 then .failed else old.state }
  if fails = 3 ∧ old.state ≠ .failed then (s.noteSensor n old.state).lostFresh old else s

/-- The staleness expiry of a FRESH sensor (R43), its region left to the caller. -/
def State.makeStale (s : State) (n : Nat) : State :=
  let old := s.sensor n
  (s.setSensor n { old with state := .stale }).noteSensor n old.state

/-! ### The sensor bus -/

/-- A sensor is due: its due time has passed (R36). -/
def State.sensorDue (s : State) (n : Nat) : Bool := (s.sensor n).cfg.enabled && (s.sensor n).due.any fun t => t ≤ s.clock.now

/-- The sensors in cyclic order after sensor `l` (R36). -/
def cyclicAfter (l : Nat) : List Nat := (List.range 8).map fun i => (l + 1 + i) % 8

/-- When the bus is free, the poll of the first due sensor in cyclic order starts (R36). -/
def State.startPoll (s : State) : State :=
  match s.bus.poll with
  | some _ => s
  | none =>
    match (cyclicAfter s.bus.last).find? s.sensorDue with
    | none => s
    | some n =>
      let now := s.clock.now
      (s.setSensor n { s.sensor n with due := some (now + s.globals.poll * tickSec), lastPoll := some now }).withBus
        { s.bus with poll := some { sensor := n, addr := (s.sensor n).cfg.addr }, last := n }

/-- What a command phase issues that runs to its stop condition (R37): the address byte has the address in its high seven
bits and 0, the write direction, below them (PRESUMED: log entry 53). -/
def commandSignals (a : Nat) : List BusSignal := [.start, .byte (BitVec.ofNat 8 (2 * a)), .byte 0x5B#8, .stop]

/-- What a read phase issues that runs to its stop condition (R37): the address byte with 1, the read direction; four of
the five bytes are acknowledged. -/
def readSignals (a : Nat) : List BusSignal :=
  [.start, .byte (BitVec.ofNat 8 (2 * a + 1)), .ack, .ack, .ack, .ack, .nack, .stop]

/-- What a phase issues that ends with an unacknowledged byte (R38): no byte after it, and the stop condition at once. -/
def noAckSignals (x : PollPhase) (command : Bool) (a : Nat) : List BusSignal :=
  match x with
  | .command => if command then commandSignals a else [.start, .byte (BitVec.ofNat 8 (2 * a)), .stop]
  | _ => [.start, .byte (BitVec.ofNat 8 (2 * a + 1)), .stop]

/-- What the controller issued in the phase that ends. -/
def State.send (s : State) (out : List BusSignal) : State := s.withBus { s.bus with sent := out }

/-- The bus becomes free. -/
def State.freeBus (s : State) : State := s.withBus { s.bus with poll := none }

/-- The check and conversion of a read (R39): the failure kind, or the temperature and humidity. -/
def convertRead (t1 t0 h1 h0 check : Byte) : FailKind ⊕ (Int × Nat) :=
  let t := (BitVec.ofNat 16 (t1.toNat * 256 + t0.toNat)).toInt
  let h := h1.toNat * 256 + h0.toNat
  if crc8 [t1, t0, h1, h0] ≠ check then .inl .badCheck
  else if t < -4000 ∨ 8500 < t ∨ 10000 < h then .inl .outOfRange
  else .inr (roundAway t 10, roundNearest h 100)

/-- An attempt has failed (R40): the first is followed by the retry, the retry ends the poll with one counted failure.
The result of a voided poll is discarded with no retry (R45). -/
def State.attemptFailed (s : State) (p : Poll) (k : FailKind) : State :=
  if p.voided then s.freeBus
  else if p.retry then s.freeBus.countedFailure p.sensor k
  else s.withBus { s.bus with poll := some { p with retry := true, phase := .command } }

/-- An attempt has given a good read (R40, R45). -/
def State.attemptRead (s : State) (p : Poll) (temp : Int) (hum : Nat) : State :=
  if p.voided then s.freeBus else s.freeBus.goodRead p.sensor temp hum

/-! ### Global climate settings -/

/-- The due times under a new poll interval (R56): the most recent poll start plus the interval, or the present moment if
that has passed; a sensor never yet polled stays due. -/
def Sensor.rescheduled (x : Sensor) (poll now : Nat) : Sensor :=
  if x.cfg.enabled then
    match x.lastPoll with
    | some t => { x with due := some (max now (t + poll * tickSec)) }
    | none => x
  else x

/-- The sensors whose staleness expiry has fallen (R43): three poll intervals have passed since the last good read. -/
def State.staleNow (s : State) (n : Nat) : Bool :=
  (s.sensor n).state == .fresh &&
    ((s.sensor n).reading.any fun r => r.time + 3 * s.globals.poll * tickSec ≤ s.clock.now)

/-- The hold of a region has expired (R51): the time since held-since exceeds the hold limit. -/
def State.holdExpired (s : State) (r : Nat) : Bool :=
  match (s.region r).state with
  | .held t => t + s.globals.hold * tickSec < s.clock.now
  | _ => false

/-- A region in DEFAULT publishes the defaults in force (R52). -/
def State.republishDefault (s : State) (r : Nat) : State :=
  if (s.region r).state = .deflt then s.setRegion r ⟨.deflt, s.globals.defTemp, s.globals.defHum⟩ else s

/-- The due times follow a new poll interval (R56). -/
def State.reschedule (s : State) : State :=
  s.withSensors (tmap (fun _ x => x.rescheduled s.globals.poll s.clock.now) s.sensors)

/-- The effects of a changed poll interval on the sensors (R56): due times and the staleness expiries that fall at
acceptance, their notices in ascending sensor order (DESIGN CHOICE: log entry 25). Gives the regions that lost a FRESH
sensor. -/
def State.pollChanged (s : State) : State × List Nat :=
  let s := s.reschedule
  let stale := (List.range 8).filter s.staleNow
  (stale.foldl State.makeStale s, stale.map fun n => (s.sensor n).cfg.region)

/-- The regions after an event on several sensors or settings, in ascending order (DESIGN CHOICE: log entry 25): those
touched are re-evaluated, a hold that has expired ends in DEFAULT, and a region in DEFAULT publishes the defaults (R49 to
R52, R56). -/
def State.settleRegions (s : State) (touched : List Nat) : State :=
  (List.range 8).foldl (fun s r =>
    let s := if touched.contains r then s.reevaluate r else s
    let s := if s.holdExpired r then s.enterDefault r else s
    s.republishDefault r) s

/-- The regions after the sensor changes of a load, in ascending order (R60): those touched are re-evaluated under the
deadband given, and a region in DEFAULT publishes the defaults. No hold expires within the load. -/
def State.settleLoaded (s : State) (touched : List Nat) (deadband : Nat) : State :=
  let g := s.globals
  let s := (s.withGlobals { g with deadband := deadband }).reevaluateAll ((List.range 8).filter touched.contains)
  (List.range 8).foldl State.republishDefault (s.withGlobals g)

end Sys2Proof.Machine
end

