-- ==== Sys2Proof/Machine/Engine.lean ====
section
/-! DEFINITION. The measurement engine: the end of a flight (R103, R131, R132), aborts (R125 to R129), the start of an
entry with its listen set and windows (R112, R113), the quiet wait (R114), and the microphones that leave UP (R114,
R116). -/

namespace Sys2Proof.Machine

/-- The probe period of an order (R112). -/
def probePeriod (order : Nat) : Nat := 2 ^ order - 1

def Flight.period (f : Flight) : Nat := probePeriod f.order

/-- Some microphone of a resolved listen set stands HEARD. -/
def anyHeard (ls : List Listen) : Bool := ls.any fun l => l.standing == .heard

/-! ### Due times and the end of a flight -/

/-- The zone is ACTIVE with tracking enabled: it holds a due time (R98). -/
def State.tracked (s : State) (z : Nat) : Bool := (s.zone z).cfg.active && (s.zone z).cfg.tracking

/-- The due time of a tracked zone is set to now plus its interval; another zone keeps what it has (R98). -/
def State.restartDue (s : State) (z : Nat) : State :=
  if s.tracked z then s.setDue z (some (s.clock.now + (s.zone z).cfg.interval * tickSec)) else s

/-- The per-microphone entry of a microphone in a flight that does not complete (R132). -/
def Listen.notRun (l : Listen) : DoneEntry :=
  { mic := l.mic, verdict := match l.standing with | .dropped => .micDown | .masked => .masked | .heard => .notRun }

/-- The MEASURE_DONE content of a flight (R131). -/
def Flight.done (f : Flight) (o : MeasureOutcome) (entries : List DoneEntry) (loop : Option Bool)
    (lat : Option Nat) : MeasureDone :=
  { zone := f.zone, kind := f.kind, cls := f.cls, outcome := o, attempts := f.attempt, level := f.level,
    loop := loop, newLatency := lat, entries := entries }

/-- The flight is over: the engine is IDLE and the zone's due time is set if it is tracked (R103). -/
def State.endFlight (s : State) (f : Flight) : State := (s.withFlight none).restartDue f.zone

/-- A flight ends without completing: MEASURE_DONE is raised and the flight is over (R103, R131). -/
def State.finish (s : State) (f : Flight) (o : MeasureOutcome) : State :=
  (s.raise (.measureDone (f.done o (f.listen.map Listen.notRun) none none))).endFlight f

/-! ### Aborts -/

/-- The accumulators of a flight are discarded (R127). -/
def Flight.discard (f : Flight) : Flight :=
  { f with listen := f.listen.map fun l => { l with acc := [] }, loopAcc := [] }

/-- An abort cause other than a clock loss reaches a flight (R125 to R128): a flight that already ends keeps its
outcome; QUIET_WAIT ends at once; another state moves to RAMP_OUT with its captures discarded. -/
def State.abort (s : State) (f : Flight) (o : MeasureOutcome) : State :=
  if f.pendingOutcome.isSome then s
  else
    match f.phase with
    | .quietWait => s.finish f o
    | _ => s.withFlight (some { f.discard with pendingOutcome := some o, phase := .rampOut })

/-- An abort cause that names a set of zones reaches the flight when its zone is one of them and, with `sparesLoop`,
its kind is not LOOP_INT (R125). -/
def State.abortWhere (s : State) (p : Nat → Bool) (sparesLoop : Bool) (o : MeasureOutcome) : State :=
  match s.flight with
  | none => s
  | some f => if p f.zone && !(sparesLoop && f.kind == .loopInt) then s.abort f o else s

/-- HOLD becomes asserted (R125, R128): in ANALYSE it sets the no-retry mark and aborts nothing. -/
def State.abortHold (s : State) : State :=
  match s.flight with
  | none => s
  | some f =>
    if f.kind = .loopInt then s
    else if f.phase = .analyse then s.withFlight (some { f with noRetry := true })
    else s.abort f .abortedHold

/-- The audio frame clock is lost (R129): the flight ends at once, with the outcome already pending if there is one. -/
def State.abortClock (s : State) : State :=
  match s.flight with
  | none => s
  | some f => s.finish f (f.pendingOutcome.getD .abortedClock)

/-! ### Waiting entries that are removed -/

/-- The MEASURE_DONE notice of a removed HOST entry (R108). -/
def removedNotice (g : Globals) (e : Entry) : List Notice :=
  match e.cls with
  | .auto => []
  | .host =>
    [.measureDone { zone := e.zone, kind := e.kind, cls := .host, outcome := .removed, attempts := 1,
                    level := e.level.getD g.level }]

/-- Waiting entries are removed, each HOST entry with its REMOVED notice in queue order (R105, R106, R108). -/
def State.removeEntries (s : State) (p : Entry → Bool) : State :=
  (s.withQueue (s.queue.filter fun e => !p e)).raiseAll ((s.queue.filter p).flatMap (removedNotice s.globals))

/-! ### The quiet wait -/

/-- A microphone's ambient level is at or below the ambient ceiling (R114). -/
def State.quietAt (s : State) (m : Nat) : Bool := (s.mic m).ambient ≤ s.globals.ceiling * 10

/-- The flight leaves QUIET_WAIT for LEAD_IN: each louder HEARD microphone stands MASKED (R114, R115). -/
def State.leaveQuiet (s : State) (f : Flight) : Flight :=
  { f with
    listen := f.listen.map fun l => if l.standing = .heard ∧ !s.quietAt l.mic then { l with standing := .masked } else l
    phase := .leadIn, ramp := 0, elapsed := 0, quietSince := none }

/-- The engine leaves QUIET_WAIT if a HEARD microphone is quiet enough (R114). -/
def State.testQuiet (s : State) : State :=
  match s.flight with
  | none => s
  | some f =>
    if f.phase = .quietWait ∧ (f.listen.any fun l => l.standing == .heard && s.quietAt l.mic) then
      s.withFlight (some (s.leaveQuiet f))
    else s

/-- The defer limit expires in QUIET_WAIT (R114): every HEARD microphone takes verdict MASKED and the measurement ends. -/
def State.deferExpires (s : State) (f : Flight) : State :=
  s.finish { f with listen := f.listen.map fun l => if l.standing = .heard then { l with standing := .masked } else l }
    .masked

/-- The time since the quiet-wait start exceeds the defer limit (R114). -/
def State.deferExpired (s : State) : Bool :=
  match s.flight with
  | none => false
  | some f => f.phase == .quietWait && f.quietSince.any fun t => t + s.globals.defer * tickSec < s.clock.now

/-- A microphone leaves UP: a flight that holds it HEARD drops it in QUIET_WAIT, LEAD_IN and CAPTURE (R114, R116); the
last one dropped in QUIET_WAIT ends the measurement with NO_MICS. -/
def State.dropMic (s : State) (m : Nat) : State :=
  match s.flight with
  | none => s
  | some f =>
    let heard := f.listen.any fun l => l.mic == m && l.standing == .heard
    let f' := { f with listen := f.listen.map fun l =>
      if l.mic = m ∧ l.standing = .heard then { l with standing := .dropped, acc := [] } else l }
    if !heard then s
    else
      match f.phase with
      | .quietWait => if anyHeard f'.listen then s.withFlight (some f') else s.finish f' .noMics
      | .leadIn | .capture => s.withFlight (some f')
      | _ => s

/-! ### Starting an entry -/

/-- The window of a CHECK or TRACK over a path (R113). -/
def State.placeWindow (s : State) (z m : Nat) (p : Path) (period : Nat) : Window :=
  let raw := s.tofEff p + (s.zone z).cfg.outLat + (s.mic m).cfg.latency
  let gate := match p.tracker with | .acquire => (s.zone z).cfg.gate * 4 | .track => (s.zone z).cfg.gate
  .placed (roundAway raw 16) (min gate (period / 2))

/-- The window of a microphone at the start of a measurement (R113). -/
def State.windowFor (s : State) (k : Kind) (z m period : Nat) : Window :=
  match k with
  | .check | .track =>
    match s.path z m with
    | some p => s.placeWindow z m p period
    | none => .whole
  | _ => .whole

/-- A listed microphone with its standing (R112): HEARD while UP, else DROPPED. -/
def State.listenTo (s : State) (k : Kind) (z period m : Nat) : Listen :=
  if (s.mic m).up then { mic := m, standing := .heard, window := s.windowFor k z m period }
  else { mic := m, standing := .dropped, window := .whole }

/-- The microphones of the resolved listen set (R112). -/
def State.listenMics (s : State) (e : Entry) : List Nat :=
  if e.kind = .loopInt then []
  else if e.listen.isEmpty then
    (List.range 16).filter fun m =>
      (s.mic m).up && (match e.kind with | .check | .track => (s.path e.zone m).isSome | _ => true)
  else e.listen

/-- The flight an entry starts as, its parameters fixed and its listen set resolved (R112). -/
def State.flightOf (s : State) (e : Entry) : Flight :=
  { zone := e.zone, cls := e.cls, kind := e.kind, admitted := e.admitted,
    phase := match e.kind with | .loopInt | .loopExt => .leadIn | _ => .quietWait
    listen := (s.listenMics e).map (s.listenTo e.kind e.zone (probePeriod s.globals.order))
    order := s.globals.order, level := e.level.getD s.globals.level, repeats := e.repeats.getD s.globals.repeats
    quietSince := match e.kind with | .loopInt | .loopExt => none | _ => some s.clock.now }

/-- An entry leaves the queue and starts (R103, R112): it ends at once with NO_MICS where no microphone stands HEARD;
otherwise it enters its first state, and a quiet enough bowl lets it leave QUIET_WAIT at once (R114). -/
def State.startEntry (s : State) (e : Entry) : State :=
  let f := s.flightOf e
  let s := s.withQueue (s.queue.erase e)
  if e.kind ≠ .loopInt ∧ !anyHeard f.listen then s.finish f .noMics
  else (s.withFlight (some f)).testQuiet

end Sys2Proof.Machine
end

