-- ==== Sys2Proof/Machine/Scheduler.lean ====
section
/-! DEFINITION. Automatic admission (R98 to R100), the arbiter (R101 to R103) and what both do within one event; the
changes of effective mute (R16, R105) and of HOLD (R102, R125). -/

namespace Sys2Proof.Machine

/-- An AUTO entry of the zone waits, or its AUTO measurement is in flight: the zone has been admitted (R98). -/
def State.admittedAuto (s : State) (z : Nat) : Bool :=
  (s.queue.any fun e => e.zone == z && e.cls == .auto) || (s.flight.any fun f => f.zone == z && f.cls == .auto)

/-- A zone is due (R98): its due time has passed and no AUTO entry has been admitted for it since. -/
def State.zoneDue (s : State) (z : Nat) : Bool :=
  s.tracked z && ((s.dueAt z).any fun t => t ≤ s.clock.now) && !s.admittedAuto z

/-- The path table holds a path from the zone to an UP microphone (R99, condition 4). -/
def State.hasUpPath (s : State) (z : Nat) : Bool := s.paths.any fun p => p.zone == z && (s.mic p.mic).up

/-- An entry of the zone waits or its measurement is in flight (R99, condition 5). -/
def State.waitingOrFlying (s : State) (z : Nat) : Bool :=
  (s.queue.any fun e => e.zone == z) || (s.flight.any fun f => f.zone == z)

/-- The first of R99's conditions that fails for a zone (R99, R110). -/
def State.blocked (s : State) (z : Nat) : Option Block :=
  if s.frozen then some .frozen
  else if s.holdOn then some .hold
  else if s.effMuted z then some .muted
  else if !s.hasUpPath z then some .noUpPath
  else if s.waitingOrFlying z then some .waiting
  else if !(s.queue.length < 24) then some .limit
  else none

/-- A due zone that nothing blocks. -/
def State.admissible (s : State) (z : Nat) : Bool := s.zoneDue z && (s.blocked z).isNone

/-- The admissible zone that is first in order of due time, with equal due times in ascending zone order (R100). -/
def State.firstDue (s : State) : Option Nat :=
  (zoneNumbers.filter s.admissible).foldl (fun best z =>
    match best with
    | none => some z
    | some b => if (s.dueAt z).getD 0 < (s.dueAt b).getD 0 then some z else some b) none

/-- The AUTO entry of a zone (R99). -/
def autoEntry (z admitted : Nat) : Entry :=
  { zone := z, cls := .auto, kind := .track, listen := [], level := none, repeats := none, admitted := admitted }

/-- The admissible zones are admitted in order while the queue has room (R99, R100), at most `fuel` of them. -/
def State.admitDue : Nat → State → State
  | 0, s => s
  | fuel + 1, s =>
    match s.firstDue with
    | none => s
    | some z => State.admitDue fuel (s.withQueue (s.queue ++ [autoEntry z s.seconds]))

/-- The entry the arbiter would start (R101): under HOLD the oldest LOOP_INT, else the oldest HOST entry, else, outside a
freeze, the oldest AUTO entry. -/
def State.nextEntry (s : State) : Option Entry :=
  if s.holdOn then s.queue.find? fun e => e.cls == .host && e.kind == .loopInt
  else
    match s.queue.find? fun e => e.cls == .host with
    | some e => some e
    | none => if s.frozen then none else s.queue.find? fun e => e.cls == .auto

/-- The arbiter may start an entry: the engine is IDLE and the audio frame clock is present (R101). -/
def State.arbiterReady (s : State) : Bool := s.flight.isNone && s.clock.audio

/-- The arbiter and the scheduler within one event (R103): the arbiter starts what may start, a measurement that ends at
once leaves the engine to the next, and the due zones that nothing blocks are admitted; at most `fuel` entries start. -/
def State.schedule : Nat → State → State
  | 0, s => s
  | fuel + 1, s =>
    let s := if s.arbiterReady then (match s.nextEntry with | some e => s.startEntry e | none => s) else s
    let s := s.admitDue 48
    if s.arbiterReady && s.nextEntry.isSome then State.schedule fuel s else s

/-- The end of an event that may start or admit an entry: the arbiter and the scheduler consider the queue (R99, R101),
then the transmitter takes up its next frame (R179). -/
def State.settleQueue (s : State) : State := s.schedule 100

def State.conclude (s : State) : State := s.settleQueue.settleTx

/-! ### Changes of effective mute and HOLD -/

/-- The consequences of changed effective mutes (R16, R85, R105, R125): `was` gives the effective mute before the event
and `took` the zones the event treats. The stages turn, the flight of a newly muted zone is aborted and its waiting
entry removed, LOOP_INT excepted. -/
def State.mutesChanged (s : State) (took was : Nat → Bool) : State :=
  let on := fun z => took z && s.effMuted z && !was z
  let off := fun z => took z && (s.zone z).cfg.active && !s.effMuted z && was z
  let audio := s.clock.audio
  let s := s.withZones (tmap (fun z zn => if on z then zn.beginMute else if off z then zn.beginUnmute audio else zn) s.zones)
  let s := s.abortWhere on true .abortedMute
  s.removeEntries fun e => on e.zone && e.kind != .loopInt

/-- The consequences of a changed HOLD (R102, R125): `was` says whether it was asserted before the event. -/
def State.holdChanged (s : State) (was : Bool) : State := if s.holdOn && !was then s.abortHold else s

end Sys2Proof.Machine
end

