-- ==== Sys2Proof/Machine/Signal.lean ====
section
/-! DEFINITION. Numbers of the audio path: quotients of words (R83, R85, R115, R168), the gain sin(π/2 × position/960), the
probe amplitude and the maximal-length sequence of R115. Only what the manual leaves open is free: the rounding of a
quotient that no word is, and the polynomial, start and sign of the sequence. -/

namespace Sys2Proof.Machine

open Sys2Proof.Config

/-! ### Quotients of words -/

/-- The quotient n / d as a word: itself where it is whole, else one of the two whole numbers next to it, as the device
rounds (log entry 11). -/
def quotientWord (n : Int) (d : Nat) : Int :=
  limitInt (n / d) (if n % d = 0 then n / d else n / d + 1) (rounding n d)

/-! ### The gain sin(π/2 × position/960) -/

/-- π times 2^160, rounded down. -/
def piScaled : Nat := 4591442807048218921384805199743311128454155024418

/-- The terms of sin θ = θ − θ³/3! + θ⁵/5! − … from a term on, `i` terms having come before, `sq` being θ² and every value
scaled by 2^160. -/
def sineTerms : Nat → Nat → Nat → Nat → Int
  | 0, _, _, _ => 0
  | fuel + 1, i, sq, term => term - sineTerms fuel (i + 1) sq (term * sq / 2 ^ 160 / ((2 * i + 2) * (2 * i + 3)))

/-- sin(π/2 × position/960) times 2^128, rounded nearest. -/
def sineScaled (position : Nat) : Nat :=
  let angle := piScaled * position / 1920
  roundNearest (sineTerms 30 0 (angle * angle / 2 ^ 160) angle).toNat (2 ^ 32)

/-- A sample times sin(π/2 × position/960), as a word (R83, R85, R115): nothing at position 0, the sample at 960. -/
def fadeGain (position : Nat) (x : Int) : Int :=
  if position = 0 then 0 else if 960 ≤ position then x else quotientWord (x * sineScaled position) (2 ^ 128)

/-! ### The probe amplitude -/

/-- The greatest whole number of `bits` bits that is at most full × 10^(−down/20). -/
def amplitudeFloor (bits full down : Nat) : Nat :=
  (List.range bits).foldr (fun i a => if (a + 2 ^ i) ^ 20 * 10 ^ down ≤ full ^ 20 then a + 2 ^ i else a) 0

/-- The full-scale value of an input word (log entry 12). -/
def fullScale : Nat := 2 ^ (wordBits - 1)

/-- The probe amplitude at a level of at most 0 dBFS (R115): full scale times 10^(level/20), as a word. -/
def amplitude (level : Int) : Int :=
  let down := (-level).toNat
  let low := amplitudeFloor wordBits fullScale down
  limitInt low (if low ^ 20 * 10 ^ down = fullScale ^ 20 then low else low + 1) (probeAmplitude level)

/-! ### The probe sequence -/

/-- The numbers whose quotients of 2^n − 1 an element of order 2^n − 1 must not reach: its prime divisors. -/
def periodPrimes (n : Nat) : List Nat :=
  match n with
  | 13 => [8191]
  | 14 => [3, 43, 127]
  | 15 => [7, 31, 151]
  | 16 => [3, 5, 17, 257]
  | _ => []

/-- A polynomial times x modulo p, of degree n, the coefficients as bits. -/
def xTimes (p n a : Nat) : Nat := if (2 * a).testBit n then 2 * a ^^^ p else 2 * a

/-- The product of two polynomials modulo p, of degree n. -/
def polyMul (p n a b : Nat) : Nat :=
  (List.range n).foldr (fun i acc => if b.testBit i then xTimes p n acc ^^^ a else xTimes p n acc) 0

/-- x to a power below 2^17, modulo p of degree n. -/
def polyPower (p n e : Nat) : Nat :=
  (List.range 17).foldr (fun i acc =>
    let q := polyMul p n acc acc
    if e.testBit i then xTimes p n q else q) 1

/-- A polynomial of degree n is primitive: x has order 2^n − 1 modulo it. -/
def primitive (p n : Nat) : Bool :=
  p.testBit n && decide (p < 2 ^ (n + 1)) && polyPower p n (2 ^ n - 1) == 1 &&
    (periodPrimes n).all fun q => polyPower p n ((2 ^ n - 1) / q) != 1

/-- A primitive polynomial of each order: x¹³+x⁴+x³+x+1, x¹⁴+x¹⁰+x⁶+x+1, x¹⁵+x+1, x¹⁶+x¹²+x³+x+1. -/
def primitiveOf (n : Nat) : Nat :=
  match n with
  | 13 => 0x201B
  | 14 => 0x4443
  | 15 => 0x8003
  | _ => 0x1100B

/-- The feedback polynomial of the probe of order n (R115; log entry 13): any primitive one. -/
def feedback (n : Nat) : Nat := if primitive (probeTaps n) n then probeTaps n else primitiveOf n

/-- Sample i of the maximal-length binary sequence of order n, before its sign (R115; log entry 13): the top coefficient
of a nonzero polynomial times x^i. -/
def probeBit (n i : Nat) : Bool :=
  let p := feedback n
  (polyMul p n (1 + probeSeed n % (2 ^ n - 1)) (polyPower p n i)).testBit (n - 1) != probeFlip n

/-- The sign of a probe sample (R115). -/
def probeSign (order i : Nat) : Int := if probeBit order i then 1 else -1

end Sys2Proof.Machine
end

