-- ==== Sys2Proof/Machine/Analysis.lean ====
section
/-! DEFINITION. What the correlators give and what is read from it: the correlation (R117), peaks and arrivals (R118), the
peak-to-noise ratio (R119) and the verdicts (R120, R123, R124). -/

namespace Sys2Proof.Machine

open Sys2Proof.Config

/-! ### Correlation -/

/-- The correlation magnitude of a capture with the probe sequence at lag k (R117). -/
def correlation (order : Nat) (acc : List Int) (k : Nat) : Nat :=
  (((List.range (probePeriod order)).map fun i =>
    acc.getD ((i + k) % probePeriod order) 0 * probeSign order i).sum).natAbs

/-- The correlation magnitudes at every lag of the period (R117). -/
def correlate (order : Nat) (acc : List Int) : List (Nat × Nat) :=
  (List.range (probePeriod order)).map fun k => (k, correlation order acc k)

/-- The magnitude at a lag, taken modulo the period (R117). -/
def magAt (mags : List (Nat × Nat)) (period : Nat) (x : Int) : Nat := (mags.lookup (x % period).toNat).getD 0

/-! ### Windows -/

/-- The first sample and the number of samples of a window (R113). -/
def Window.span (w : Window) (period : Nat) : Int × Nat :=
  match w with
  | .whole => (0, period)
  | .placed c g => (c - g, 2 * g + 1)

/-- The peak's sample: the first of the window's samples with the largest magnitude, in window order (R118). -/
def peakSample (mags : List (Nat × Nat)) (period : Nat) (first : Int) (count : Nat) : Int :=
  (List.range count).foldl (fun (best : Int) (i : Nat) =>
    if magAt mags period best < magAt mags period (first + i) then first + i else best) first

/-- The sub-sample offset from the magnitudes before, at and after the peak (R118): 16δ rounded half away from zero,
limited to −8 to +8. -/
def subSample (before at_ after : Nat) : Int :=
  let num : Int := 8 * ((before : Int) - after)
  let den : Int := (before : Int) - 2 * at_ + after
  if den = 0 then 0
  else limitInt (-8) 8 (if den < 0 then roundAway (-num) den.natAbs else roundAway num den.natAbs)

/-- The unwrapped arrival, in subsamples (R118). -/
def unwrapped (mags : List (Nat × Nat)) (period : Nat) (k : Int) : Int :=
  16 * k + subSample (magAt mags period (k - 1)) (magAt mags period k) (magAt mags period (k + 1))

/-- The reported arrival (R118). -/
def reported (u : Int) (period : Nat) : Nat := (u % (16 * period)).toNat

/-- The peak is an edge peak (R118). -/
def Window.edge (w : Window) (k : Int) : Bool :=
  match w with
  | .whole => false
  | .placed c g => k == c - g || k == c + g

/-- A lag lies within 32 lags of lag k, modulo the period (R119). -/
def nearLag (period : Nat) (k l : Int) : Bool :=
  let d := ((l - k) % period).toNat
  d ≤ 32 || period ≤ d + 32

/-- The lags whose magnitudes make the noise (R119): the window's samples outside K − 32 to K + 32 when a placed window has
129 samples or more, else the whole period outside those lags. -/
def noiseLags (w : Window) (period : Nat) (k : Int) : List Int :=
  match w with
  | .placed c g =>
    if 129 ≤ 2 * g + 1 then
      ((List.range (2 * g + 1)).map fun (i : Nat) => c - g + i).filter fun x => x < k - 32 || k + 32 < x
    else ((List.range period).map Int.ofNat).filter fun x => !nearLag period k x
  | .whole => ((List.range period).map Int.ofNat).filter fun x => !nearLag period k x

/-- The peak-to-noise ratio in tenths of a dB (R119). -/
def pnrOf (mags : List (Nat × Nat)) (w : Window) (period : Nat) (k : Int) : Nat :=
  let lags := noiseLags w period k
  let power := (lags.map fun x => magAt mags period x ^ 2).sum
  let y := magAt mags period k
  if power = 0 then (if 0 < y then 999 else 0) else logRound (y ^ 2 * lags.length) power 999

/-- What the analysis of one microphone gives: peak, unwrapped and reported arrival, PNR (R118, R119). -/
structure Peak where
  k : Int
  unwrapped : Int
  arrival : Nat
  pnr : Nat
  edge : Bool
  deriving DecidableEq, Repr, Inhabited

/-- The analysis of one microphone's magnitudes over its window (R118, R119). -/
def analysePeak (mags : List (Nat × Nat)) (w : Window) (period : Nat) : Peak :=
  let k := peakSample mags period (w.span period).1 (w.span period).2
  { k := k, unwrapped := unwrapped mags period k, arrival := reported (unwrapped mags period k) period,
    pnr := pnrOf mags w period k, edge := w.edge k }

/-! ### Verdicts -/

/-- The verdict of a HEARD microphone of a SURVEY, CHECK or TRACK (R120), from its peak, its time of flight and the path
temperature at analysis. -/
def verdictOf (pnrMin : Nat) (p : Peak) (tof t : Int) : Verdict :=
  if p.pnr < pnrMin then .lowPnr
  else if p.edge then .outsideGate
  else if tof < 0 ∨ 400000 < impliedDist tof.toNat t then .implausible
  else .found

/-- The verdict of a LOOP_EXT's microphone, from its candidate latency (R124). -/
def loopVerdict (pnrMin : Nat) (p : Peak) (candidate : Int) : Verdict :=
  if p.pnr < pnrMin then .lowPnr
  else if candidate < 0 ∨ 76800 < candidate then .implausible
  else .found

/-- The magnitudes of a microphone among the readings of an ANALYSE_END. -/
def readingOf (rs : List Reading) (m : Nat) : List (Nat × Nat) := ((rs.find? fun r => r.mic == m).map (·.mags)).getD []

/-- A microphone of the listen set after the analysis (R120, R124, R132), its effect still to come. The latencies and the
path temperature are those at analysis (R117). -/
def State.analyse (s : State) (f : Flight) (rs : List Reading) (l : Listen) : DoneEntry :=
  match l.standing with
  | .dropped => { mic := l.mic, verdict := .micDown }
  | .masked => { mic := l.mic, verdict := .masked }
  | .heard =>
    let p := analysePeak (readingOf rs l.mic) l.window f.period
    if f.kind = .loopExt then
      let c : Int := (p.arrival : Int) - (s.mic l.mic).cfg.latency
      let v := loopVerdict s.globals.pnrMin p c
      { mic := l.mic, verdict := v, arrival := some p.arrival, pnr := some p.pnr,
        tof := if v = .lowPnr then none else some c }
    else
      let tof : Int := p.unwrapped - (s.zone f.zone).cfg.outLat - (s.mic l.mic).cfg.latency
      let v := verdictOf s.globals.pnrMin p tof (s.pathTemp f.zone l.mic)
      { mic := l.mic, verdict := v, arrival := some p.arrival, pnr := some p.pnr,
        tof := if v = .lowPnr then none else some tof }

/-- The loop result of a LOOP_INT (R123): PASS when the reported arrival is 0 and the PNR at least 600. -/
def loopPass (mags : List (Nat × Nat)) (period : Nat) : Bool :=
  let p := analysePeak mags .whole period
  p.arrival == 0 && 600 ≤ p.pnr

end Sys2Proof.Machine
end

