-- ==== Sys2Proof/Machine/Tracker.lean ====
section
/-! DEFINITION. What a completed measurement writes: surveyed distances (R28, R29), the drift tracker (R133 to R144), and
the microphone health monitor with its conditions (R152 to R157). -/

namespace Sys2Proof.Machine

/-! ### Paths written (R20, R26, R27, R29, R145) -/

/-- A path with the tracker fields at their starting values (R145). -/
def freshPath (z m dist : Nat) (o : Origin) : Path := { zone := z, mic := m, dist := dist, origin := o }

/-- A path takes the place of the record of its pair, or joins the end of the table (R20, R26, R27). -/
def writePath (ps : List Path) (p : Path) : List Path :=
  if ps.any fun q => q.zone == p.zone && q.mic == p.mic then
    ps.map fun q => if q.zone = p.zone ∧ q.mic = p.mic then p else q
  else ps ++ [p]

/-- The table has a place for the pair: a record to overwrite, or fewer than 192 records (R25, R29). -/
def hasPlace (ps : List Path) (z m : Nat) : Bool := (ps.any fun q => q.zone == z && q.mic == m) || ps.length < 192

/-- One entry of a completed SURVEY is applied (R29): the distance of a FOUND entry of an UP microphone is written, or
its verdict becomes TABLE_FULL when the table has no place. -/
def State.surveyEntry (s : State) (z : Nat) (acc : List Path × List DoneEntry) (e : DoneEntry) :
    List Path × List DoneEntry :=
  if e.verdict = .found ∧ (s.mic e.mic).up then
    if hasPlace acc.1 z e.mic then
      let t := s.pathTemp z e.mic
      (writePath acc.1 (freshPath z e.mic (impliedDist (e.tof.getD 0).toNat t) (.surveyed t)),
        acc.2 ++ [{ e with effect := .distanceSet }])
    else (acc.1, acc.2 ++ [{ e with verdict := .tableFull, tof := none }])
  else (acc.1, acc.2 ++ [e])

/-- The entries of a completed SURVEY are applied in listen-set order (R29). -/
def State.surveyApply (s : State) (z : Nat) (es : List DoneEntry) : List Path × List DoneEntry :=
  es.foldl (s.surveyEntry z) (s.paths, [])

/-! ### The drift tracker -/

/-- The classes of an applied entry (R135). -/
inductive EntryKind where
  | accept | miss | neither
  deriving DecidableEq, Repr, Inhabited

/-- The class of a verdict (R135). -/
def Verdict.entryKind : Verdict → EntryKind
  | .found => .accept
  | .lowPnr => .miss
  | .outsideGate => .miss
  | _ => .neither

/-- The gain of a tracker state (R138). -/
def TrackerState.gain : TrackerState → Int
  | .acquire => 128
  | .track => 32

/-- The correction after an accepted error (R138): the error times the gain, divided by 256, rounded half away from zero,
added and limited to −960 to +960. -/
def correctedBy (p : Path) (e : Int) : Int := limitInt (-960) 960 (p.correction + roundAway (e * p.tracker.gain) 256)

/-- The correction and limit flag of an accepted entry (R138). -/
def Path.corrected (p : Path) (e : Int) : Path :=
  { p with correction := correctedBy p e, limit := correctedBy p e == 960 || correctedBy p e == -960 }

/-- An accepted entry acts on a path (R140, R142). -/
def Path.accept (p : Path) (e : Int) : Path :=
  let q := p.corrected e
  match p.tracker with
  | .acquire =>
    if e.natAbs ≤ 16 then
      if p.goodRun + 1 = 3 then { q with tracker := .track, goodRun := 0, missRun := 0 }
      else { q with goodRun := p.goodRun + 1 }
    else { q with goodRun := 0 }
  | .track => { q with missRun := 0 }

/-- A miss acts on a path (R141, R142). -/
def Path.miss (p : Path) : Path :=
  match p.tracker with
  | .acquire => p
  | .track =>
    if p.missRun + 1 = 4 then { p with tracker := .acquire, goodRun := 0, missRun := 0 }
    else { p with missRun := p.missRun + 1 }

/-- The PATH_LOCK notice of an entry that changed the tracker state (R144). -/
def lockNotice (old new : Path) (error : Option Int) : List Notice :=
  match old.tracker, new.tracker with
  | .acquire, .track =>
    [.pathLock old.zone old.mic true .acquire .track 3 new.correction new.limit error]
  | .track, .acquire =>
    [.pathLock old.zone old.mic false .track .acquire 4 new.correction new.limit none]
  | _, _ => []

/-- The three conditions of R134 for an entry of the listen set: its window was placed from a path and it was not dropped,
a record exists now, and the microphone is UP. Gives the record. -/
def State.applies (s : State) (ps : List Path) (z : Nat) (l : Listen) : Option Path :=
  match l.window, l.standing with
  | .whole, _ => none
  | _, .dropped => none
  | .placed _ _, _ =>
    if (s.mic l.mic).up then ps.find? fun p => p.zone == z && p.mic == l.mic else none

/-- What a tracker application carries along: the path table, the entries with their effects, the notices, and the keys of
the paths whose correction changed. -/
structure TrackAcc where
  paths : List Path
  entries : List DoneEntry := []
  notices : List Notice := []
  changed : List (Nat × Nat) := []
  deriving DecidableEq, Repr, Inhabited

/-- The path after an applied entry (R136 to R142), with its effect and error. -/
def State.trackPath (s : State) (p : Path) (e : DoneEntry) : Path × Effect × Option Int :=
  let err := if e.verdict = .found then e.tof.map fun t => t - s.tofEff p else none
  let q := { p with last := some { verdict := e.verdict, arrival := e.arrival, pnr := e.pnr, error := err,
                                   time := s.seconds } }
  match e.verdict.entryKind with
  | .accept => (q.accept (err.getD 0), .corrected, err)
  | .miss => (q.miss, if p.tracker = .track then .missCounted else .none, err)
  | .neither => (q, .none, err)

/-- One entry of a completed CHECK or TRACK is applied (R133 to R143). -/
def State.trackEntry (s : State) (z : Nat) (acc : TrackAcc) (x : Listen × DoneEntry) : TrackAcc :=
  match s.applies acc.paths z x.1 with
  | none => { acc with entries := acc.entries ++ [x.2] }
  | some p =>
    let r := s.trackPath p x.2
    { paths := writePath acc.paths r.1
      entries := acc.entries ++ [{ x.2 with effect := r.2.1 }]
      notices := acc.notices ++ lockNotice p r.1 r.2.2
      changed := if r.1.correction = p.correction then acc.changed else acc.changed ++ [(p.zone, p.mic)] }

/-- The entries of a completed CHECK or TRACK are applied in listen-set order (R133, R143). -/
def State.trackApply (s : State) (z : Nat) (xs : List (Listen × DoneEntry)) : TrackAcc :=
  xs.foldl (s.trackEntry z) { paths := s.paths }

/-! ### Microphone conditions -/

/-- Two sets of conditions joined. -/
def Conditions.union (a b : Conditions) : Conditions :=
  ⟨a.silent || b.silent, a.overload || b.overload, a.stuck || b.stuck, a.deaf || b.deaf⟩

/-- The conditions of the first set that are not in the second. -/
def Conditions.diff (a b : Conditions) : Conditions :=
  ⟨a.silent && !b.silent, a.overload && !b.overload, a.stuck && !b.stuck, a.deaf && !b.deaf⟩

/-- The enabled conditions whose counters stand at their thresholds (R152 to R155). -/
def Mic.atThreshold (x : Mic) : Conditions :=
  ⟨x.cfg.enables.silent && x.silentMs == 10000, x.cfg.enables.overload && x.clip == 32,
    x.cfg.enables.stuck && x.ident == 4800, x.cfg.enables.deaf && x.deaf == 8⟩

/-- The conditions that trip now: at threshold and not among the latched causes (R156). -/
def Mic.tripping (x : Mic) : Conditions := x.atThreshold.diff x.latched

/-- The number of paths that name a microphone. -/
def State.micPaths (s : State) (m : Nat) : Nat := s.paths.countP fun p => p.mic == m

/-- The MIC_DOWN notice of a microphone (R157). -/
def State.micDownNotice (s : State) (m : Nat) (causes : Conditions) : Notice :=
  let x := s.mic m
  .micDown m causes x.ambient x.silentMs x.clip x.ident x.deaf (s.micPaths m)
    (zoneNumbers.countP fun z => (s.zone z).cfg.active && (s.zone z).cfg.mic == some m)

/-- The conditions at threshold trip in a microphone in use (R156): they join the latched causes together; an UP
microphone becomes DOWN with one MIC_DOWN notice that names them all. -/
def State.tripMic (s : State) (m : Nat) : State :=
  let x := s.mic m
  let c := x.tripping
  if !x.cfg.inUse ∨ c = {} then s
  else
    let s := s.setMic m { x with down := true, latched := x.latched.union c }
    if x.down then s else s.raise (s.micDownNotice m c)

/-- The trips of one event, in ascending microphone order (R156). -/
def State.tripMics (s : State) : State := (List.range 16).foldl State.tripMic s

/-- The microphones that are UP in this state and not in the next, in ascending order. -/
def State.wentDown (s t : State) : List Nat := (List.range 16).filter fun m => (s.mic m).up && !(t.mic m).up

/-- The trips of one event, after which the engine drops every microphone that they took down (R156; the order of the
notices: log entry 20). -/
def State.tripAndDrop (s : State) : State := (s.wentDown s.tripMics).foldl State.dropMic s.tripMics

/-- The DEAF run of a microphone in use after a verdict (R155). A disabled condition keeps its run at 0. -/
def Mic.heardVerdict (x : Mic) (v : Verdict) : Mic :=
  if !x.cfg.inUse then x
  else
    match v with
    | .lowPnr => if x.cfg.enables.deaf then { x with deaf := min 8 (x.deaf + 1) } else x
    | .found | .outsideGate | .implausible => { x with deaf := 0 }
    | _ => x

/-- The verdicts of a completed CHECK or TRACK reach the monitor in listen-set order (R155). A microphone made UNUSED
during the flight is passed over, also one taken into use again (DEDUCED: log entry 50). -/
def State.healthApply (s : State) (xs : List (Listen × DoneEntry)) : State :=
  xs.foldl (fun s x => if x.1.unused then s else s.setMic x.2.mic ((s.mic x.2.mic).heardVerdict x.2.verdict)) s

/-- The DEAF trips of a completion, in listen-set order (R155, R156). -/
def State.deafTrips (s : State) (es : List DoneEntry) : State := es.foldl (fun s e => s.tripMic e.mic) s

end Sys2Proof.Machine
end

