-- ==== Sys2Proof/Machine/Configure.lean ====
section
/-! DEFINITION. Configuration written to the records of zones, microphones, lines and settings, with its effects:
activation, reconfiguration and retirement of a zone (R11 to R13), a microphone's configuration (R159), the supervision
settings (R181) and the climate settings (R56). The commands and the loading of an image share these operations. -/

namespace Sys2Proof.Machine

/-! ### Zones -/

/-- The record of an UNUSED zone made ACTIVE (R11): under a freeze its status is HELD_FROZEN over a held FREE (R73). -/
def Zone.configured (zn : Zone) (c : ZoneCfg) (mute frozen : Bool) (bands : List Band) : Zone :=
  { zn with cfg := c, hostMute := mute, status := if frozen then .heldFrozen else .free, held := .free,
            eq := { zn.eq with bands := bands } }

/-- An activated zone whose retirement fade-out is over is set directly and fades in (R11, R88, R170). -/
def State.openZone (s : State) (z : Nat) (zn : Zone) : Zone :=
  if zn.retiring then zn else zn.activate (s.effMuted z) s.clock.audio (s.shelf z)

/-- Activation of an UNUSED zone (R11). -/
def State.activateZone (s : State) (z : Nat) (c : ZoneCfg) : State :=
  let s := s.setZone z ((s.zone z).configured c false s.frozen [])
  let s := s.recompute fun x => x == z
  let s := s.setZone z (s.openZone z (s.zone z))
  s.restartDue z

/-- The due time after a ZONE_SET on an ACTIVE zone (R98): removed when tracking is disabled, set when it is enabled, kept
otherwise. -/
def State.retrack (s : State) (z : Nat) (before : Bool) : State :=
  if !s.tracked z then s.setDue z none else if before then s else s.restartDue z

/-- Reconfiguration of an ACTIVE zone (R12), in its order. -/
def State.reconfigureZone (s : State) (z : Nat) (c : ZoneCfg) : State :=
  let before := s.tracked z
  let s := s.abortWhere (fun x => x == z) false .abortedReconfig
  let s := s.removeEntries fun e => e.zone == z
  let s := s.setZone z { s.zone z with cfg := c }
  let s := s.reformSets fun x => x == z
  let s := s.recompute fun x => x == z
  s.retrack z before

/-- The record, delay line, mute stage and equaliser of a zone at its retirement (R13 steps 4 to 6, R89, R171). The host
band list is emptied, also one that an EQ_SET has written for an activation that awaits the end of an earlier
retirement's fade-out (DEDUCED: log entry 52). -/
def Zone.retire (zn : Zone) : Zone :=
  let zn := { zn with
    cfg := {}, hostMute := false, target := 0, status := .free, held := .free, missing := {},
    eq := { zn.eq with bands := [], pendingSet := none } }
  if zn.stage = .closed then zn.finishRetire
  else
    { zn with
      stage := .fadingOut, retiring := true,
      transition := match zn.transition with | .glide => .steady | t => t }

/-- Retirement of an ACTIVE zone (R13), in its order. -/
def State.retireZone (s : State) (z : Nat) : State :=
  let s := s.abortWhere (fun x => x == z) false .abortedReconfig
  let s := s.removeEntries fun e => e.zone == z
  let s := s.withPaths (s.paths.filter fun p => p.zone != z)
  let s := s.setZone z (s.zone z).retire
  s.setDue z none

/-! ### Microphones -/

/-- The counters of disabled conditions are 0 (section 9.3). -/
def Mic.quietDisabled (x : Mic) : Mic :=
  { x with
    silentMs := if x.cfg.enables.silent then x.silentMs else 0
    clip := if x.cfg.enables.overload then x.clip else 0
    ident := if x.cfg.enables.stuck then x.ident else 0
    deaf := if x.cfg.enables.deaf then x.deaf else 0 }

/-- The record of a microphone as an accepted MIC_SET leaves it (R159). -/
def Mic.configure (x : Mic) (c : MicCfg) : Mic :=
  if !x.cfg.inUse then (if c.inUse then { cfg := c } else { x with cfg := c })
  else if !c.inUse then { cfg := c }
  else if x.cfg.slot = c.slot then { x with cfg := c }.quietDisabled
  else { x with cfg := c, history := [], silentMs := 0, clip := 0, ident := 0, windowPos := 0 }.quietDisabled

/-- A flight keeps in mind that a microphone of its listen set has been made UNUSED (R155). -/
def State.markUnused (s : State) (m : Nat) : State :=
  s.withFlight (s.flight.map fun f =>
    { f with listen := f.listen.map fun l => if l.mic = m then { l with unused := true } else l })

/-- A microphone's configuration is written with the effects of R159 on the record and on the flight. -/
def State.configureMic (s : State) (m : Nat) (c : MicCfg) : State :=
  let leaves := (s.mic m).cfg.inUse && !c.inUse
  let s := s.setMic m ((s.mic m).configure c)
  if leaves then (s.markUnused m).dropMic m else s

/-- The zones whose listening microphone is m. -/
def State.listensAt (s : State) (m z : Nat) : Bool := (s.zone z).cfg.mic == some m

/-- The paths of a microphone are removed (R32). -/
def State.dropMicPaths (s : State) (m : Nat) : State :=
  let keys := (s.paths.filter fun p => p.mic == m).map fun p => (p.zone, p.mic)
  (s.withPaths (s.paths.filter fun p => p.mic != m)).pathsChanged keys

/-- A microphone returned to UP with its causes and counters cleared (R158). -/
def Mic.restored (x : Mic) : Mic := { x with down := false, latched := {}, silentMs := 0, clip := 0, ident := 0, deaf := 0 }

/-! ### Global settings -/

/-- The supervision settings have changed by an accepted GLOBAL_SET (R181); in LAPSED_FREEZE they wait for its end. -/
def State.supervisionSet (s : State) (old : Globals) : State :=
  if s.globals.supTime = old.supTime ∧ s.globals.freeze = old.freeze then s
  else
    match s.link.supervision with
    | .lapsedFreeze => s
    | _ => s.startWatching

/-- A global climate setting has changed (R56). -/
def climateSettingChanged (old new : Globals) : Bool :=
  old.poll != new.poll || old.hold != new.hold || old.defTemp != new.defTemp || old.defHum != new.defHum

/-- The effects of changed global climate settings (R51, R52, R56). -/
def State.climateSet (s : State) (old : Globals) : State :=
  if climateSettingChanged old s.globals then
    let r := if old.poll = s.globals.poll then (s, []) else s.pollChanged
    ((r.1.settleRegions r.2).regionsChanged s.regions).startPoll
  else s

/-- The effects of a changed ambient ceiling or defer limit on a quiet wait in progress (R114, R185). Where one GLOBAL_SET
brings both, the level is taken first, so the probe starts; R114 allows either order (DESIGN CHOICE: log entry 25). -/
def State.quietSet (s : State) : State :=
  let s := s.testQuiet
  match s.flight with
  | some f => if s.deferExpired then s.deferExpires f else s
  | none => s

end Sys2Proof.Machine
end

