-- ==== Sys2Proof/Machine/Resets.lean ====
section
/-! DEFINITION. The ALIGN reset (R190), the snapshot and the check of an image (R186), the loading of a valid image (R18,
R23, R60, R161, R174, R187) and start-up (R188). -/

namespace Sys2Proof.Machine

open Sys2Proof.Config

/-! ### The ALIGN reset -/

/-- The due time of every zone that holds one is restarted (R98, R107). -/
def State.restartDueTimes (s : State) : State :=
  s.withDue (tmap (fun z d => d.map fun _ => s.clock.now + (s.zone z).cfg.interval * tickSec) s.due)

/-- The ALIGN reset without its recomputation of the targets (R23, R107, R161, R181, R190): the queue is emptied with no
notice, the flight aborted, every path back in ACQUIRE with correction 0, every DOWN microphone UP, any lapse left and
the due times restarted. -/
def State.alignCore (s : State) : State :=
  let s := (s.withQueue []).abortWhere (fun _ => true) false .abortedReset
  let s := s.withPaths (s.paths.map fun p => freshPath p.zone p.mic p.dist p.origin)
  let s := s.withMics (tmap (fun _ x => if x.state = .down then x.restored else x) s.mics)
  s.leaveLapse.restartDueTimes

/-- The ALIGN reset (R76, R190). -/
def State.alignReset (s : State) : State := s.alignCore.recompute allZones

/-! ### The image -/

/-- The stored content of the present moment (R186). -/
def State.snapshot (s : State) : Image :=
  { globals := s.globals
    lines := tmap (fun _ x => x.cfg) s.lines
    sensors := tmap (fun _ x => x.cfg) s.sensors
    mics := tmap (fun _ x => x.cfg) s.mics
    zones := tmap (fun _ x => x.cfg) s.zones
    hostMutes := tmap (fun _ x => x.hostMute) s.zones
    paths := s.paths.map fun p => ⟨p.zone, p.mic, p.dist, p.origin⟩
    bands := tmap (fun _ x => x.eq.bands) s.zones }

/-- The stored image of some contents, with their CRC-32 (R186). -/
def storedImage (im : Image) : StoredImage := ⟨im, crc32 (imageBytes im)⟩

/-- An image is valid when its CRC-32 matches its contents (R186). -/
def StoredImage.valid (x : StoredImage) : Bool := x.check == crc32 (imageBytes x.contents)

/-- What the store reads: the image's contents when they are read intact and pass their check (R187, R188). -/
def Store.read (st : Store) (intact : Bool) : Option Image :=
  match st.image with
  | some x => if intact && x.valid then some x.contents else none
  | none => none

/-- The path records of an image (R23). -/
def Image.pathRecords (im : Image) : List Path := im.paths.map fun p => freshPath p.zone p.mic p.dist p.origin

/-- The line records take the image's fields; the taken levels stay (R182, R187). -/
def State.loadLines (s : State) (im : Image) : State :=
  s.withLines (tmap (fun l x => { x with cfg := tget im.lines l }) s.lines)

/-- A zone record under the load, by its state before and after (R18). -/
def Zone.load (zn : Zone) (c : ZoneCfg) (mute : Bool) (bands : List Band) : Zone :=
  if !zn.cfg.active then (if c.active then zn.configured c mute false bands else zn)
  else if c.active then { zn with cfg := c, hostMute := mute, eq := { zn.eq with bands := bands } }
  else zn.retire

/-- The zone records take the image's values (R18). -/
def State.loadZones (s : State) (im : Image) : State :=
  s.withZones (tmap (fun z zn => zn.load (tget im.zones z) (tget im.hostMutes z) (tget im.bands z)) s.zones)

/-- The due times after a load (R98, R107): `before` says which zones were tracked. -/
def State.loadDue (s : State) (before : Nat → Bool) : State :=
  s.withDue (tmap (fun z d =>
    if !s.tracked z then none
    else if before z then d
    else some (s.clock.now + (s.zone z).cfg.interval * tickSec)) s.due)

/-! ### STORE_LOAD of a valid image -/

/-- The sensor configuration of an image with the effects of SENSOR_SET, in ascending sensor number (R60). Gives the
regions whose FRESH sensors it touches. -/
def State.loadSensors (s : State) (im : Image) : State × List Nat :=
  (List.range 8).foldl (fun acc n =>
    let s' := acc.1.configureSensor n (tget im.sensors n)
    (s', acc.2 ++ Sensor.touched (acc.1.sensor n) (s'.sensor n))) (s, [])

/-- The microphone configuration of an image with the effects of MIC_SET, paths excepted (R161). -/
def State.loadMics (s : State) (im : Image) : State :=
  (List.range 16).foldl (fun s m => s.configureMic m (tget im.mics m)) s

/-- The zones made ACTIVE by a load open as activated zones (R11, R18, R170). -/
def State.openLoaded (s : State) (before : Nat → Bool) : State :=
  s.withZones (tmap (fun z zn => if zn.cfg.active && !before z then s.openZone z zn else zn) s.zones)

/-- The global settings take an image's values with their effects on supervision and due times (R185, R187); a staleness
or a hold that the new values bring to its end expires after the load (R60). -/
def State.loadGlobals (s : State) (g : Globals) : State :=
  let old := s.globals
  let s := (s.withGlobals g).supervisionSet old
  if old.poll = g.poll then s else s.reschedule

/-- The line records take an image's values with the effects of R182: the zones ACTIVE before the load follow a change of
MUTE_ALL, and the flight a change of HOLD. -/
def State.takeLines (s : State) (im : Image) : State :=
  ((s.loadLines im).mutesChanged (fun _ => true) s.effMuted).holdChanged s.holdOn

/-- The sensors take an image's configuration, and the regions it touches are re-evaluated under the deadband given
(R60). -/
def State.takeSensors (s : State) (im : Image) (deadband : Nat) : State :=
  (s.loadSensors im).1.settleLoaded (s.loadSensors im).2 deadband

/-- The zone records take an image's values (R18); a zone ACTIVE before and after follows its change of effective mute. -/
def State.takeZones (s : State) (im : Image) : State :=
  (s.loadZones im).mutesChanged (fun z => (s.zone z).cfg.active) s.effMuted

/-- The loading of a valid image in one event (R187; log entry 17): the ALIGN reset, the replacements in their order, each
with its effects, then one recomputation of every ACTIVE zone and one set for each zone. -/
def State.loadImage (s0 : State) (im : Image) : State :=
  let s := (s0.alignCore.loadGlobals im.globals).takeLines im
  let s := s.takeSensors im (if climateFirst then im.globals.deadband else s0.globals.deadband)
  let s := ((s.loadMics im).takeZones im).withPaths im.pathRecords
  let s := (s.recompute allZones).openLoaded fun z => (s0.zone z).cfg.active
  ((s.reformSets allZones).loadDue s0.tracked).startPoll

/-! ### Start-up -/

/-- The link speed the straps select (R188). -/
def linkSpeed (strap0 strap1 : Bool) : LinkSpeed :=
  match strap0, strap1 with
  | false, false => .b115200
  | true, false => .b460800
  | false, true => .b921600
  | true, true => .b3000000

/-- Steps 1 and 2 of R188: every block takes its start-up values, the straps and the line levels are sampled, lines 1 to 4
at the level the part drives (R184), and the store result and image state follow from the image read. What waits outside the part stays (log entry 37). -/
def State.powerUp (s : State) (strap0 strap1 : Bool) (levels : BitVec 6) (loaded : Bool) : State :=
  let s : State := { State.reset with
    pending := s.pending
    inputs := s.inputs
    clock := { audio := s.clock.audio }
    pins := ⟨strap0, strap1, levels⟩
    link := { speed := linkSpeed strap0 strap1 }
    store := { image := s.store.image, valid := loaded, loaded := loaded } }
  s.withLines (tmap (fun l x => { x with taken := s.lineLevel l }) s.lines)

/-- Step 3 of R188: the image is applied to the start-up values, with no notices. -/
def State.applyImage (s : State) (im : Image) : State :=
  let s := (s.withGlobals im.globals).loadLines im
  let s := s.withSensors (tmap (fun n x => x.configure (tget im.sensors n) s.clock.now) s.sensors)
  let s := s.withMics (tmap (fun m x => x.configure (tget im.mics m)) s.mics)
  (s.loadZones im).withPaths im.pathRecords

/-- Every region stands in DEFAULT and publishes the defaults in force (R48). -/
def State.defaultRegions (s : State) : State :=
  s.withRegions (Vector.replicate 8 ⟨.deflt, s.globals.defTemp, s.globals.defHum⟩)

/-- Every ACTIVE zone is set directly to its target, forms its first set and begins its fade-in (R75, R88, R170). -/
def State.openAll (s : State) : State :=
  s.withZones (tmap (fun z zn => if zn.cfg.active then s.openZone z zn else zn) s.zones)

/-- Start-up (R188), from its first step to the event that ends it. -/
def State.startUp (s : State) (strap0 strap1 : Bool) (levels : BitVec 6) (intact : Bool) : State :=
  let im := s.store.read intact
  let s := s.powerUp strap0 strap1 levels im.isSome
  let s := match im with | some x => s.applyImage x | none => s
  let s := s.defaultRegions.recomputeQuietly allZones
  (s.openAll.loadDue fun _ => false).startWatching.startPoll

end Sys2Proof.Machine
end

