-- ==== Sys2Proof/Machine/LinkCommands.lean ====
section
/-! DEFINITION. The meanings of HELLO, RESET, RESUME, GLOBAL_SET, GLOBAL_GET and of a command of an unassigned kind. -/

namespace Sys2Proof.Machine

/-- The handling of a command of an assigned kind as a step (R177). -/
def command (kind : Nat) (tag : Byte) (body : List Byte) (h : State → State × Answer) (s : State) :
    Host.Outcome State Fault Refusal :=
  .next (handle ⟨BitVec.ofNat 8 kind, tag, body⟩ (bodyLengthOk kind body) h s)

/-- A refused command changes nothing (R177). -/
def refuse (st : Status) (s : State) : State × Answer := (s, refusal st)

/-- An accepted command that reports and changes nothing. -/
def report (d : ReplyData) (s : State) : State × Answer := (s, accepted [] d)

/-! ### HELLO -/

/-- What HELLO reports (R189): device code 0x48, design version 1. -/
def State.helloReport (s : State) : HelloReport :=
  { device := 0x48, version := 1, speed := s.link.speed, loaded := s.store.loaded, valid := s.store.valid
    storeBusy := s.store.op.isSome, seconds := s.seconds, supervision := s.link.supervision
    notices := s.link.outbox.length, dropped := s.link.dropped, abandoned := s.link.abandoned
    badCheck := s.link.badCheck, overrun := s.link.overrun, foreign := s.link.foreign }

/-- HELLO (R189). -/
def execHello (tag : Byte) (body : List Byte) (s : State) : Host.Outcome State Fault Refusal :=
  command 0x01 tag body (fun s => report (.hello s.helloReport) s) s

/-! ### RESET -/

/-- RESET FULL at acceptance (R190): no further command is taken and the waiting commands are discarded. -/
def State.resetFull (s : State) : State := s.withLink { s.link with commands := [], resetting := true }

/-- RESET by its one byte (R190). -/
def State.resetBy (b : List Byte) (s : State) : State × Answer :=
  match byteAt b 0 with
  | 1 => (s.resetFull, accepted [] .none)
  | 2 => (s.alignReset.settleQueue, accepted [] .none)
  | _ => refuse .badValue s

/-- RESET, the row of FULL (R190). -/
def execResetFull (tag : Byte) (body : List Byte) (s : State) : Host.Outcome State Fault Refusal :=
  command 0x02 tag body (State.resetBy body) s

/-- RESET, the row of ALIGN (R190). -/
def execResetAlign (tag : Byte) (body : List Byte) (s : State) : Host.Outcome State Fault Refusal :=
  command 0x02 tag body (State.resetBy body) s

/-! ### RESUME -/

/-- RESUME leaves LAPSED_FREEZE; in another state it changes nothing (R74, R181). -/
def State.resume (s : State) : State := if s.frozen then (s.leaveLapse.recompute allZones).settleQueue else s

/-- RESUME (R181). -/
def execResume (tag : Byte) (body : List Byte) (s : State) : Host.Outcome State Fault Refusal :=
  command 0x03 tag body (fun s => (s.resume, accepted [] .none)) s

/-! ### Global settings -/

/-- The settings written with their effects at acceptance (R56, R114, R181, R185). -/
def State.setGlobals (s : State) (g : Globals) : State :=
  let old := s.globals
  (((s.withGlobals g).quietSet.climateSet old).supervisionSet old).settleQueue

/-- The examination of a GLOBAL_SET (R185). -/
def State.globalSet (b : List Byte) (s : State) : State × Answer :=
  if globalSetOk b then (s.setGlobals (globalSetCfg b).1, accepted (globalSetCfg b).2 .none) else refuse .badValue s

/-- GLOBAL_SET (R185). -/
def execGlobalSet (tag : Byte) (body : List Byte) (s : State) : Host.Outcome State Fault Refusal :=
  command 0x04 tag body (State.globalSet body) s

/-- GLOBAL_GET (R185). -/
def execGlobalGet (tag : Byte) (body : List Byte) (s : State) : Host.Outcome State Fault Refusal :=
  command 0x05 tag body (fun s => report (.globals s.globals) s) s

/-! ### Unassigned kinds -/

/-- A command of a kind in 0x01 to 0x3F that Figure 11-2 does not assign is answered UNKNOWN_KIND whatever its body (R177).
Another kind spells no command (log entry 38). -/
def execUnknownKindCommand (kind tag : Byte) (body : List Byte) (s : State) : Host.Outcome State Fault Refusal :=
  if 1 ≤ kind.toNat ∧ kind.toNat ≤ 0x3F ∧ ¬ assignedKinds.contains kind.toNat then
    .next (handle ⟨kind, tag, body⟩ true (refuse .unknownKind) s)
  else .fault .illFormed

end Sys2Proof.Machine
end

