-- ==== Sys2Proof/Machine/AudioEvents.lean ====
section
/-! DEFINITION. The meanings of the events that count audio frames: millisecond boundaries (R78, R80, R151, R152), the ends
of crossfades and fades (R83 to R86, R168, R169), and the loss and return of the audio frame clock (R90, R91, R161). -/

namespace Sys2Proof.Machine

open Sys2Proof.Config

/-! ### Millisecond boundaries -/

/-- The ambient level of a history, in tenths of a dB (R151): 20 × log10 of RMS over full scale is minus 10 × log10 of the
full-scale power over the mean power, and a quotient of whole numbers never ends in exactly one half. -/
def ambientOf (history : List Int) : Int :=
  let power := (history.map fun x => x.natAbs ^ 2).sum
  if power = 0 then -1200 else -(logRound (history.length * fullScale ^ 2) power 1200 : Int)

/-- The silent time after a boundary with an ambient level (R152). A disabled condition keeps it at 0. -/
def Mic.silentStep (x : Mic) (ambient : Int) : Nat :=
  if x.cfg.enables.silent then (if ambient < -800 then min 10000 (x.silentMs + 1) else 0) else 0

/-- A microphone record at a millisecond boundary (R151, R152). -/
def Mic.boundary (x : Mic) : Mic :=
  if x.cfg.inUse then { x with ambient := ambientOf x.history, silentMs := x.silentStep (ambientOf x.history) } else x

/-- The part at a millisecond boundary (R78): glide steps, ambient levels, silent times. -/
def State.boundary (s : State) : State :=
  ((s.withClock { s.clock with frames := 0 }).withZones (tmap (fun _ zn => zn.glideStep) s.zones)).withMics
    (tmap (fun _ x => x.boundary) s.mics)

/-- MILLISECOND_BOUNDARY (R78): none passes while the audio frame clock is absent. -/
def execMillisecondBoundary (s : State) : Host.Outcome State Fault Refusal :=
  .next (if s.clock.audio then s.boundary else s)

/-! ### Crossfades and fades -/

/-- DELAY_XFADE_END (R83, R84). -/
def execDelayXfadeEnd (z : Fin 48) (s : State) : Host.Outcome State Fault Refusal :=
  .next (s.setZone z (s.zone z).endXfade)

/-- A zone's stage reaches CLOSED (R86, R89, R90, R169, R171). -/
def State.closed (s : State) (z : Nat) (zn : Zone) : Zone := zn.reachClosed (s.effMuted z) s.clock.audio (s.shelf z)

/-- FADE_OUT_COMPLETE (R85, R86, R89). -/
def execFadeOutComplete (z : Fin 48) (s : State) : Host.Outcome State Fault Refusal :=
  .next (match (s.zone z).stage with
    | .fadingOut => s.setZone z (s.closed z (s.zone z))
    | _ => s)

/-- FADE_IN_COMPLETE (R85). -/
def execFadeInComplete (z : Fin 48) (s : State) : Host.Outcome State Fault Refusal :=
  .next (match (s.zone z).stage with
    | .fadingIn => s.setZone z { s.zone z with stage := .opened, fade := 960 }
    | _ => s)

/-- EQ_XFADE_END (R168). -/
def execEqXfadeEnd (z : Fin 48) (s : State) : Host.Outcome State Fault Refusal :=
  .next (s.setZone z { s.zone z with eq := (s.zone z).eq.endXfade })

/-! ### The audio frame clock -/

/-- A zone at the loss of the audio frame clock (R90): its stage is CLOSED and its memory holds silence. The filter memories
are cleared with it, so that at the return the zone plays silence for its running delay (R91; DEDUCED: log entry 56). -/
def State.zoneAtLoss (s : State) (z : Nat) (zn : Zone) : Zone :=
  let zn := if zn.stage = .closed then zn else s.closed z zn
  { zn with memory := [], eq := zn.eq.clearFilters }

/-- A microphone at the loss of the audio frame clock (R161). -/
def Mic.atLoss (x : Mic) : Mic := { x with history := [], ambient := -1200, silentMs := 0, clip := 0, ident := 0 }

/-- The loss of the audio frame clock (R90, R129, R161). -/
def State.loseAudio (s : State) : State :=
  let s := (s.withClock { s.clock with audio := false }).abortClock
  (s.withZones (tmap s.zoneAtLoss s.zones)).withMics (tmap (fun _ x => x.atLoss) s.mics)

/-- AUDIO_CLOCK_LOSS (R90). A queued row leaves the internal timebase where it stands, also less than 1 ms after the last
frame: the clock comes from outside, and the row says that it is lost at the present moment (DESIGN CHOICE: log entry 2). -/
def execAudioClockLoss (s : State) : Host.Outcome State Fault Refusal :=
  .next (if s.clock.audio then s.loseAudio.conclude else s)

/-- The return of the audio frame clock (R91, R161): every ACTIVE zone not effectively muted begins its fade-in, and a fresh
window of R153 begins. -/
def State.regainAudio (s : State) : State :=
  let s := s.withClock { s.clock with audio := true, lastFrame := s.clock.now, frames := 0 }
  (s.withZones (tmap (fun z zn => if zn.cfg.active && !s.effMuted z then zn.beginUnmute true else zn) s.zones)).withMics
    (tmap (fun _ x => { x with clip := 0, windowPos := 0 }) s.mics)

/-- AUDIO_CLOCK_RETURN (R91). -/
def execAudioClockReturn (s : State) : Host.Outcome State Fault Refusal :=
  .next (if s.clock.audio then s else s.regainAudio.conclude)

end Sys2Proof.Machine
end

