-- ==== Sys2Proof/Machine/ClimateCommands.lean ====
section
/-! DEFINITION. The meanings of SENSOR_SET, SENSOR_GET, REGION_OVERRIDE and REGION_GET. -/

namespace Sys2Proof.Machine

/-! ### Sensors -/

/-- An accepted SENSOR_SET (R44, R45): the record, then the regions it touches, then the solver and the equaliser; a bus
left free starts the next due poll. A SENSOR_SET of the values already held changes nothing. -/
def State.writeSensor (s : State) (n : Nat) (c : SensorCfg) : State :=
  if (s.sensor n).cfg = c then s
  else
    let t := s.configureSensor n c
    ((t.reevaluateAll (Sensor.touched (s.sensor n) (t.sensor n))).regionsChanged s.regions).startPoll

/-- Another enabled sensor holds the bus address (R44). -/
def State.addressTaken (s : State) (n addr : Nat) : Bool :=
  (List.range 8).any fun k => k != n && (s.sensor k).cfg.enabled && (s.sensor k).cfg.addr == addr

/-- The examination of a SENSOR_SET (R44). -/
def State.sensorSet (b : List Byte) (s : State) : State × Answer :=
  if 8 ≤ byteAt b 0 ∨ byteAt b 1 < 0x08 ∨ 0x77 < byteAt b 1 ∨ 8 ≤ byteAt b 2 ∨ 2 ≤ byteAt b 3 then refuse .badValue s
  else if byteAt b 3 = 1 ∧ s.addressTaken (byteAt b 0) (byteAt b 1) then refuse .conflict s
  else (s.writeSensor (byteAt b 0) ⟨byteAt b 1, byteAt b 2, byteAt b 3 == 1⟩, accepted [] .none)

/-- SENSOR_SET (R44). -/
def execSensorSet (tag : Byte) (body : List Byte) (s : State) : Host.Outcome State Fault Refusal :=
  command 0x14 tag body (State.sensorSet body) s

/-- What SENSOR_GET reports (R47; log entry 30). -/
def State.sensorReport (s : State) (n : Nat) : SensorReport :=
  let x := s.sensor n
  { sensor := x
    ageSeconds := x.reading.map fun r => (s.clock.now - r.time) / tickSec
    dueMs := if x.cfg.enabled then x.due.map fun t => (t - s.clock.now) / tickMs else none
    pollRetry := s.bus.poll.bind fun p => if p.sensor = n then some p.retry else none }

/-- The examination of a SENSOR_GET (R47). -/
def State.sensorGet (b : List Byte) (s : State) : State × Answer :=
  if 8 ≤ byteAt b 0 then refuse .badValue s else report (.sensor (s.sensorReport (byteAt b 0))) s

/-- SENSOR_GET (R47). -/
def execSensorGet (tag : Byte) (body : List Byte) (s : State) : Host.Outcome State Fault Refusal :=
  command 0x15 tag body (State.sensorGet body) s

/-! ### Regions -/

/-- A region enters OVERRIDE and publishes the override values (R53). -/
def State.overrideRegion (s : State) (r : Nat) (temp : Int) (hum : Nat) : State :=
  (s.enterRegion r ⟨.override temp hum, temp, hum⟩).regionsChanged s.regions

/-- The override of a region is cleared (R53). -/
def State.clearOverride (s : State) (r : Nat) : State :=
  match (s.region r).state with
  | .override _ _ =>
    (match sensorMean (s.freshIn r) with
      | some m => s.enterRegion r ⟨.sensors, m.1, m.2⟩
      | none => s.enterDefault r).regionsChanged s.regions
  | _ => s

/-- The examination of a REGION_OVERRIDE (R53). -/
def State.regionOverride (b : List Byte) (s : State) : State × Answer :=
  let temp := clampInt none 1 (-300) 600 (s16At b 2)
  let hum := clampNat none 2 0 100 (byteAt b 4)
  if 8 ≤ byteAt b 0 then refuse .badValue s
  else
    match byteAt b 1 with
    | 0 => (s.clearOverride (byteAt b 0), accepted [] .none)
    | 1 => (s.overrideRegion (byteAt b 0) temp.1 hum.1, accepted (temp.2 ++ hum.2) .none)
    | _ => refuse .badValue s

/-- REGION_OVERRIDE, the row of the set request (R53). -/
def execRegionOverrideSet (tag : Byte) (body : List Byte) (s : State) : Host.Outcome State Fault Refusal :=
  command 0x16 tag body (State.regionOverride body) s

/-- REGION_OVERRIDE, the row of the clear request (R53). -/
def execRegionOverrideClear (tag : Byte) (body : List Byte) (s : State) : Host.Outcome State Fault Refusal :=
  command 0x16 tag body (State.regionOverride body) s

/-- The sensors of a region in ascending order, with their states (R55). -/
def State.sensorsOf (s : State) (r : Nat) : List (Nat × SensorState) :=
  ((List.range 8).filter fun n => (s.sensor n).cfg.region == r).map fun n => (n, (s.sensor n).state)

/-- What REGION_GET reports (R55; log entry 30). -/
def State.regionReport (s : State) (r : Nat) : RegionReport :=
  let x := s.region r
  let since := match x.state with | .held t => some t | _ => none
  { state := x.state, temp := x.temp, hum := x.hum
    heldSinceSeconds := since.map fun t => t / tickSec
    holdRemaining := since.map fun t => (t + s.globals.hold * tickSec - s.clock.now) / tickSec
    mean := sensorMean (s.freshIn r), sensors := s.sensorsOf r }

/-- The examination of a REGION_GET (R55). -/
def State.regionGet (b : List Byte) (s : State) : State × Answer :=
  if 8 ≤ byteAt b 0 then refuse .badValue s else report (.region (s.regionReport (byteAt b 0))) s

/-- REGION_GET (R55). -/
def execRegionGet (tag : Byte) (body : List Byte) (s : State) : Host.Outcome State Fault Refusal :=
  command 0x17 tag body (State.regionGet body) s

end Sys2Proof.Machine
end

