-- ==== Sys2Proof/Machine/ClimateEvents.lean ====
section
/-! DEFINITION. The meanings of the events of the sensor bus and the climate unit (R36 to R40, R43, R51). Each stands for
its occurrence (log entry 2). -/

namespace Sys2Proof.Machine

/-- SENSOR_DUE (R36): the due time has passed; a free bus starts the next poll. -/
def execSensorDue (n : Fin 8) (s : State) : Host.Outcome State Fault Refusal :=
  .next (match (s.sensor n).due with
    | some t => if (s.sensor n).cfg.enabled then (s.reach t).startPoll else s
    | none => s)

/-- The phase of the poll in progress changes. -/
def State.enterPhase (s : State) (p : Poll) (x : PollPhase) : State := s.withBus { s.bus with poll := some { p with phase := x } }

/-- COMMAND_PHASE_END (R37, R45): start condition, address byte, measure command byte and stop condition have been
issued; the conversion wait begins, or a voided poll ends at this stop condition. -/
def execCommandPhaseEnd (s : State) : Host.Outcome State Fault Refusal :=
  .next (match s.bus.poll with
    | some p =>
      if p.phase = .command then
        let s := s.send (commandSignals p.addr)
        if p.voided then s.freeBus.startPoll else s.enterPhase p (.wait s.clock.now)
      else s
    | none => s)

/-- CONVERSION_WAIT_END (R37): 50 ms have passed in which the controller sent nothing, and the read phase begins. -/
def execConversionWaitEnd (s : State) : Host.Outcome State Fault Refusal :=
  .next (match s.bus.poll with
    | some p =>
      match p.phase with
      | .wait since => ((s.send []).enterPhase p .read).reach (since + 50 * tickMs)
      | _ => s
    | none => s)

/-- The end of an attempt with its consequences: the next due poll starts when the bus is free (R36, R40). -/
def State.attemptEnds (s : State) : State := s.startPoll.settleTx

/-- CLOCK_STUCK (R38): both lines are released and no stop condition is issued. The controller watches the clock line
throughout the attempt, so in the conversion wait too (DEDUCED: log entry 46). -/
def execClockStuck (s : State) : Host.Outcome State Fault Refusal :=
  .next (match s.bus.poll with
    | some p => ((s.send []).attemptFailed p .clockStuck).attemptEnds
    | none => s)

/-- DATA_STUCK (R38): nine recovery clocks and a stop condition follow. The data line is needed high only before a start
or a stop condition, and none is due in the conversion wait, where the fault does not occur (DEDUCED: log entry 46). -/
def execDataStuck (s : State) : Host.Outcome State Fault Refusal :=
  .next (match s.bus.poll with
    | some p =>
      match p.phase with
      | .wait _ => s
      | _ => ((s.send recovery).attemptFailed p .dataStuck).attemptEnds
    | none => s)

/-- The read phase has completed (R39, R40). -/
def State.attemptBytes (s : State) (p : Poll) (t1 t0 h1 h0 check : Byte) : State :=
  match convertRead t1 t0 h1 h0 check with
  | .inl k => s.attemptFailed p k
  | .inr v => s.attemptRead p v.1 v.2

/-- SENSOR_ATTEMPT_END (R38, R39, R40): an unacknowledged byte in the command or read phase, or the end of the read phase. -/
def execSensorAttemptEnd (result : AttemptEnd) (s : State) : Host.Outcome State Fault Refusal :=
  .next (match s.bus.poll with
    | none => s
    | some p =>
      match result, p.phase with
      | .noAck c, .command => ((s.send (noAckSignals .command c p.addr)).attemptFailed p .noAck).attemptEnds
      | .noAck false, .read => ((s.send (noAckSignals .read false p.addr)).attemptFailed p .noAck).attemptEnds
      | .read t1 t0 h1 h0 check, .read =>
        ((s.send (readSignals p.addr)).attemptBytes p t1 t0 h1 h0 check).attemptEnds
      | _, _ => s)

/-- A FRESH sensor becomes STALE and its region loses it (R43, R49). -/
def State.expireSensor (s : State) (n : Nat) : State := (s.makeStale n).lostFresh (s.sensor n)

/-- STALENESS_EXPIRY (R43): three poll intervals have passed since the last good read. -/
def execStalenessExpiry (n : Fin 8) (s : State) : Host.Outcome State Fault Refusal :=
  .next (match (s.sensor n).state, (s.sensor n).reading with
    | .fresh, some r => ((s.reach (r.time + 3 * s.globals.poll * tickSec)).expireSensor n).settleTx
    | _, _ => s)

/-- HOLD_EXPIRY (R51): the time since held-since exceeds the hold limit. -/
def execHoldExpiry (r : Fin 8) (s : State) : Host.Outcome State Fault Refusal :=
  .next (match (s.region r).state with
    | .held t =>
      (((s.reach (t + s.globals.hold * tickSec + 1)).enterDefault r).regionsChanged s.regions).settleTx
    | _ => s)

end Sys2Proof.Machine
end

