-- ==== Sys2Proof/Machine/EqCommands.lean ====
section
/-! DEFINITION. The meanings of EQ_SET and EQ_GET. -/

namespace Sys2Proof.Machine

/-- The record of a zone after an accepted EQ_SET (R166, R171, R172): the host band list takes the bands and a new set is
formed, unless the zone's activation awaits the end of its retirement fade-out. -/
def Zone.takeBands (zn : Zone) (bands : List Band) (shelf : Nat) : Zone :=
  let zn := { zn with eq := { zn.eq with bands := bands } }
  if zn.retiring then zn else zn.takeSet ⟨bands, shelf⟩

/-- How an EQ_SET reports its set (R171, R172). -/
def Zone.bandsTaken (zn : Zone) : SetTaken := if zn.retiring then .applied else zn.howTaken

/-- The examination of an EQ_SET (R172). -/
def State.eqSet (b : List Byte) (s : State) : State × Answer :=
  let z := byteAt b 0
  let zn := s.zone z
  let bands := eqSetBands b
  if 48 ≤ z ∨ 8 < byteAt b 1 then refuse .badValue s
  else if !((List.range (byteAt b 1)).all fun i => bandOk (bandBytes b i)) then refuse .badValue s
  else if !zn.cfg.active then refuse .notFound s
  else
    (s.setZone z (zn.takeBands (bands.map (·.1)) (s.shelf z)),
      accepted (bands.flatMap (·.2)) (.eqSet zn.bandsTaken))

/-- EQ_SET (R172). -/
def execEqSet (tag : Byte) (body : List Byte) (s : State) : Host.Outcome State Fault Refusal :=
  command 0x18 tag body (State.eqSet body) s

/-- What EQ_GET reports (R173). Path humidity and alpha are of the path to the listening microphone; a zone without one
reports both absent, as the distance (DESIGN CHOICE: log entry 51). -/
def State.eqReport (s : State) (z : Nat) : EqReport :=
  let zn := s.zone z
  let hum := zn.cfg.mic.map fun m => s.pathHum z m
  { bands := zn.eq.bands, latestShelf := zn.eq.latest.shelf, mic := zn.cfg.mic
    dist := zn.cfg.mic.bind fun m => (s.path z m).map (·.dist)
    humidity := hum, alpha := hum.map absorption, airComp := zn.cfg.airComp
    blending := zn.eq.xfade.map fun x => (x.elapsed, x.origin.shelf, x.dest.shelf)
    pendingShelf := zn.eq.pendingSet.map (·.shelf), currentShelf := zn.eq.current.shelf }

/-- The examination of an EQ_GET (R173). -/
def State.eqGet (b : List Byte) (s : State) : State × Answer :=
  if 48 ≤ byteAt b 0 then refuse .badValue s else report (.eq (s.eqReport (byteAt b 0))) s

/-- EQ_GET (R173). -/
def execEqGet (tag : Byte) (body : List Byte) (s : State) : Host.Outcome State Fault Refusal :=
  command 0x19 tag body (State.eqGet body) s

end Sys2Proof.Machine
end

