-- ==== Sys2Proof/Machine/LineStore.lean ====
section
/-! DEFINITION. The meanings of LINE_SET, LINE_GET and the change of a line's level, and of STORE_SAVE, STORE_LOAD and
their ends. -/

namespace Sys2Proof.Machine

/-! ### Control lines -/

/-- A line record changes, with what follows for MUTE_ALL and HOLD (R15, R16, R101, R182, R183). -/
def State.writeLine (s : State) (l : Nat) (x : Line) : State :=
  ((s.setLine l x).mutesChanged (fun _ => true) s.effMuted).holdChanged s.holdOn

/-- The examination of a LINE_SET (R182). -/
def State.lineSet (b : List Byte) (s : State) : State × Answer :=
  let l := byteAt b 0
  let c : LineCfg := ⟨byteAt b 1 == 1, byteAt b 2 == 1, byteAt b 3 == 1, byteAt b 4 == 1⟩
  if 6 ≤ l ∨ 2 ≤ byteAt b 1 ∨ 2 ≤ byteAt b 2 ∨ 2 ≤ byteAt b 3 ∨ 2 ≤ byteAt b 4 then refuse .badValue s
  else ((s.writeLine l { s.line l with cfg := c }).settleQueue, accepted [] .none)

/-- LINE_SET (R182). -/
def execLineSet (tag : Byte) (body : List Byte) (s : State) : Host.Outcome State Fault Refusal :=
  command 0x20 tag body (State.lineSet body) s

/-- What LINE_GET reports (R182). -/
def State.lineReports (s : State) : List LineReport :=
  (List.range 6).map fun l => ⟨(s.line l).cfg, (s.line l).taken, s.lineFunction l⟩

/-- LINE_GET (R182). -/
def execLineGet (tag : Byte) (body : List Byte) (s : State) : Host.Outcome State Fault Refusal :=
  command 0x21 tag body (fun s => report (.lines s.lineReports) s) s

/-- The levels at the pins with one of them set. -/
def levelsWith (levels : BitVec 6) (l : Nat) (high : Bool) : BitVec 6 :=
  if high then levels ||| (1#6 <<< l) else levels &&& ~~~(1#6 <<< l)

/-- The LINE_CHANGE notice of a line whose taken level changed: a GENERAL input with its notice enabled (R183). -/
def State.lineNotice (s : State) (l : Nat) : List Notice :=
  let x := s.line l
  if x.cfg.general && !x.cfg.output && x.cfg.notice then [.lineChange l x.taken s.seconds] else []

/-- A change of a line's level to `high` can be taken: on a line that the part drives, when it drives that level or three
samples have agreed on it (R183; log entry 41). -/
def State.canTake (s : State) (l : Nat) (high : Bool) : Bool :=
  match s.lineDrive l with
  | none => true
  | some d => d == high || 3 ≤ (s.line l).agree

/-- The taken level of a line changes (R183); on a line that the part does not drive, the level from outside is the one
taken (log entry 41). -/
def State.takeLevel (s : State) (l : Nat) (high : Bool) : State :=
  let s := if (s.lineDrive l).isNone then s.withPins { s.pins with levels := levelsWith s.pins.levels l high } else s
  let s := s.writeLine l { s.line l with taken := high, agree := 0 }
  s.raiseAll (s.lineNotice l)

/-- LINE_LEVEL_CHANGE (R183). -/
def execLineLevelChange (line : Fin 6) (high : Bool) (s : State) : Host.Outcome State Fault Refusal :=
  .next (if (s.line line).taken != high && s.canTake line high then (s.takeLevel line high).conclude else s)

/-! ### Settings store -/

/-- STORE_SAVE at acceptance (R186): the snapshot is taken and the image state is INVALID. -/
def State.startSave (s : State) : State :=
  s.withStore { s.store with image := none, valid := false, op := some (.save s.snapshot) }

/-- The examination of a STORE_SAVE (R186). -/
def State.storeSave (s : State) : State × Answer :=
  if s.store.op.isSome then refuse .busy s else (s.startSave, { status := .accepted })

/-- STORE_SAVE (R186). -/
def execStoreSave (tag : Byte) (body : List Byte) (s : State) : Host.Outcome State Fault Refusal :=
  command 0x24 tag body State.storeSave s

/-- The end of a save (R186). -/
def State.endSave (s : State) (im : Image) (readBackMatches : Bool) : State :=
  if readBackMatches then
    (s.withStore { s.store with image := some (storedImage im), valid := true, op := none }).raise
      (.storeDone true .ok (some im.paths.length))
  else (s.withStore { s.store with image := none, valid := false, op := none }).raise (.storeDone true .writeFault none)

/-- STORE_SAVE_COMPLETE (R186). -/
def execStoreSaveComplete (readBackMatches : Bool) (s : State) : Host.Outcome State Fault Refusal :=
  .next (match s.store.op with
    | some (.save im) => (s.endSave im readBackMatches).settleTx
    | _ => s)

/-- The examination of a STORE_LOAD (R187). -/
def State.storeLoad (s : State) : State × Answer :=
  if s.store.op.isSome then refuse .busy s else (s.withStore { s.store with op := some .load }, { status := .accepted })

/-- STORE_LOAD (R187). -/
def execStoreLoad (tag : Byte) (body : List Byte) (s : State) : Host.Outcome State Fault Refusal :=
  command 0x25 tag body State.storeLoad s

/-- The end of a load (R187): CHECK_FAIL, or STORE_DONE first among the notices and the loading of the image. An image that
passes its check makes the image state VALID, also where it stood INVALID (DEDUCED: log entry 59). -/
def State.endLoad (s : State) (intact : Bool) : State :=
  match s.store.read intact with
  | none => (s.withStore { s.store with valid := false, op := none }).raise (.storeDone false .checkFail none)
  | some im =>
    (((s.withStore { s.store with valid := true, op := none }).raise (.storeDone false .ok (some im.paths.length))).loadImage
      im).settleQueue

/-- STORE_LOAD_COMPLETE (R187). -/
def execStoreLoadComplete (imageIntact : Bool) (s : State) : Host.Outcome State Fault Refusal :=
  .next (match s.store.op with
    | some .load => (s.endLoad imageIntact).settleTx
    | _ => s)

end Sys2Proof.Machine
end

