-- ==== Sys2Proof/Machine/LinkEvents.lean ====
section
/-! DEFINITION. The meanings of start-up and of the events of the control link: the frame receiver (R175, R176), the end of
a transmission (R179, R190) and the supervision lapse (R180). -/

namespace Sys2Proof.Machine

/-- START_UP (R188). -/
def execStartUp (strap0 strap1 : Bool) (levels : BitVec 6) (imageIntact : Bool) (s : State) :
    Host.Outcome State Fault Refusal :=
  .next (s.startUp strap0 strap1 levels imageIntact)

/-! ### The frame receiver -/

/-- A 16-bit count that stops at 65,535 rises by 1 (R176). -/
def countUp (n : Nat) : Nat := min 65535 (n + 1)

/-- The bytes a frame's check covers: length, kind, tag and body (Figure 11-1). -/
def coveredBytes (kind tag : Byte) (body : List Byte) : List Byte := bytes2 body.length ++ kind :: tag :: body

/-- The check of a frame (R176). -/
def frameCheck (kind tag : Byte) (body : List Byte) : BitVec 16 := crc16 (coveredBytes kind tag body)

/-- A frame with a good check restarts the supervision timer and ends a LAPSED_NOTE (R180). -/
def Link.goodFrame (l : Link) (now : Nat) : Link :=
  match l.supervision with
  | .watching => { l with lastGood := some now, timerFrom := now }
  | .lapsedNote => { l with lastGood := some now, timerFrom := now, supervision := .watching }
  | _ => { l with lastGood := some now }

/-- A frame with a good check is kept as a command or counted (R176). -/
def Link.dispose (l : Link) (c : RxCommand) : Link :=
  if 1 ≤ c.kind.toNat ∧ c.kind.toNat ≤ 0x3F then
    if l.commands.length < 4 then { l with commands := l.commands ++ [c] } else { l with overrun := countUp l.overrun }
  else { l with foreign := countUp l.foreign }

/-- A whole frame has arrived (R176): the hunt resumes with the next byte. -/
def Link.receive (l : Link) (now : Nat) (c : RxCommand) (good : Bool) : Link :=
  let l := { l with rx := .hunting }
  if good then (l.goodFrame now).dispose c else { l with badCheck := countUp l.badCheck }

/-- FRAME_RECEIVED (R176). A body of more than 1,024 bytes is no frame of the part (log entry 38). -/
def execFrameReceived (kind tag : Byte) (body : List Byte) (check : BitVec 16) (s : State) :
    Host.Outcome State Fault Refusal :=
  if body.length ≤ 1024 then
    .next (s.withLink (s.link.receive s.clock.now ⟨kind, tag, body⟩ (frameCheck kind tag body == check)))
  else .fault .illFormed

/-- A frame under assembly is abandoned and counted; the hunt resumes (R175). -/
def Link.abandon (l : Link) : Link := { l with rx := .hunting, abandoned := countUp l.abandoned }

/-- The receiver at an abandoning byte (R175). A low stop bit while hunting is not counted: it only gives up a first sync
byte. -/
def Link.abandonAt (l : Link) (cause : AbandonCause) : Link :=
  match l.rx, cause with
  | .assembling _ _, _ => l.abandon
  | _, .lowStopBit => { l with rx := .hunting }
  | _, .overLength => l

/-- FRAME_ABANDONED (R175). -/
def execFrameAbandoned (cause : AbandonCause) (s : State) : Host.Outcome State Fault Refusal :=
  .next (s.withLink (s.link.abandonAt cause))

/-- The moment of the last byte taken into a frame, from the first sync byte on (R175; log entry 24). -/
def RxState.lastByte : RxState → Option Nat
  | .hunting => none
  | .firstSync t => some t
  | .assembling _ t => some t

/-- INTER_BYTE_TIMEOUT (R175): more than 10 ms have passed since the last byte of the frame. -/
def execInterByteTimeout (s : State) : Host.Outcome State Fault Refusal :=
  .next (match s.link.rx.lastByte with
    | none => s
    | some t => (s.withLink s.link.abandon).reach (t + 10 * tickMs + 1))

/-- SYNC_PAIR_FOUND (R175): the frame's other bytes follow. -/
def execSyncPairFound (s : State) : Host.Outcome State Fault Refusal :=
  .next (match s.link.rx with
    | .assembling _ _ => s
    | _ => s.withLink { s.link with rx := .assembling [] s.clock.now })

/-! ### The transmitter -/

/-- The frame being sent is the reply to a RESET FULL (R190): no other reply can follow it into the reply slot. -/
def Link.endsInStartUp (l : Link) : Bool :=
  l.resetting && l.reply.isNone && (match l.tx with | some (.reply _) => true | _ => false)

/-- TRANSMIT_END (R179, R190): the transmitter takes up its next frame, or start-up follows the reply to a RESET FULL (log
entry 36). -/
def execTransmitEnd (s : State) : Host.Outcome State Fault Refusal :=
  .next (
    if s.link.tx.isNone then s
    else if s.link.endsInStartUp then s.startUp s.pins.strap0 s.pins.strap1 s.pins.levels true
    else s.withLink s.link.nextFrame)

/-! ### Supervision -/

/-- The whole milliseconds since the last good frame (R180; log entry 29). -/
def State.silenceMs (s : State) : Nat :=
  match s.link.lastGood with
  | some t => (s.clock.now - t) / tickMs
  | none => Config.lapseMs s.clock.now

/-- Supervision lapses by its action (R72, R180). -/
def State.lapse (s : State) : State :=
  let n := Notice.lapse s.globals.freeze s.globals.supTime s.silenceMs
  if s.globals.freeze then
    ((s.withZones (tmap (fun _ zn => zn.freeze) s.zones)).withLink { s.link with supervision := .lapsedFreeze }).raise n
  else (s.withLink { s.link with supervision := .lapsedNote }).raise n

/-- SUPERVISION_LAPSE (R180). -/
def execSupervisionLapse (s : State) : Host.Outcome State Fault Refusal :=
  .next (match s.link.supervision with
    | .watching => ((s.reach (s.link.timerFrom + s.globals.supTime * tickSec + 1)).lapse).settleTx
    | _ => s)

end Sys2Proof.Machine
end

