-- ==== Sys2Proof/Machine/MeasureEvents.lean ====
section
/-! DEFINITION. The meanings of the events of the measurement engine and the scheduler: TRACKING_DUE (R98, R99), the quiet
wait (R114), the ends of LEAD_IN, CAPTURE and ANALYSE (R115, R116, R121, R122) and of the ramp-out (R127). -/

namespace Sys2Proof.Machine

/-- TRACKING_DUE (R98, R99): the due time has passed. -/
def execTrackingDue (z : Fin 48) (s : State) : Host.Outcome State Fault Refusal :=
  .next (match s.dueAt z with
    | some t => (s.reach t).conclude
    | none => s)

/-! ### Quiet wait -/

/-- QUIET_WAIT_LEAVE (R114): a HEARD microphone is quiet enough. -/
def execQuietWaitLeave (s : State) : Host.Outcome State Fault Refusal := .next s.testQuiet

/-- The defer limit is exceeded (R114). -/
def State.passDefer (s : State) : State :=
  match s.flight with
  | none => s
  | some f =>
    match f.phase, f.quietSince with
    | .quietWait, some t => ((s.reach (t + s.globals.defer * tickSec + 1)).deferExpires f).conclude
    | _, _ => s

/-- DEFER_LIMIT_EXPIRY (R114). -/
def execDeferLimitExpiry (s : State) : Host.Outcome State Fault Refusal := .next s.passDefer

/-! ### Phases of an attempt -/

/-- The flight in a phase, if it is in that phase. -/
def State.inPhase (s : State) (p : Phase) : Option Flight := s.flight.filter fun f => f.phase == p

/-- LEAD_IN_END (R115): the ramp-in is over and the capture begins. -/
def execLeadInEnd (s : State) : Host.Outcome State Fault Refusal :=
  .next (match s.inPhase .leadIn with
    | some f => s.withFlight (some { f.discard with phase := .capture, ramp := 960, elapsed := 0 })
    | none => s)

/-- CAPTURE_END (R116, R117): the probe begins to ramp out. -/
def execCaptureEnd (s : State) : Host.Outcome State Fault Refusal :=
  .next (match s.inPhase .capture with
    | some f => s.withFlight (some { f with phase := .analyse, ramp := 960, elapsed := 0 })
    | none => s)

/-! ### The end of ANALYSE -/

/-- A retry follows (R121). -/
def Flight.retries (f : Flight) (es : List DoneEntry) : Bool :=
  (f.kind == .check || f.kind == .track) && f.attempt == 1 && !f.noRetry &&
    !(es.any fun e => e.verdict == .found) && es.any fun e => e.verdict == .lowPnr

/-- A microphone at the start of a retry (R121): its standing carries over, but one that left UP in ANALYSE is heard no
more, as in the LEAD_IN that begins (R116, R150; DEDUCED: log entry 49). -/
def State.standAgain (s : State) (l : Listen) : Listen :=
  if l.standing = .heard ∧ !(s.mic l.mic).up then { l with standing := .dropped } else l

/-- The flight at the start of its retry (R121). -/
def State.retry (s : State) (f : Flight) : Flight :=
  { f.discard with listen := f.discard.listen.map s.standAgain, attempt := 2, level := min (f.level + 6) (-20),
                   phase := .leadIn, ramp := 0, elapsed := 0 }

/-- The keys of the paths a SURVEY wrote (R29). -/
def surveyKeys (z : Nat) (es : List DoneEntry) : List (Nat × Nat) :=
  (es.filter fun e => e.effect == .distanceSet).map fun e => (z, e.mic)

/-- The completion of a SURVEY (R29, R122). -/
def State.completeSurvey (s : State) (f : Flight) (es : List DoneEntry) : State :=
  let r := s.surveyApply f.zone es
  ((s.withPaths r.1).raise (.measureDone (f.done .complete r.2 none none))).pathsChanged (surveyKeys f.zone r.2)

/-- The completion of a CHECK or TRACK (R122, R133, R143, R155, R156): the tracker, the monitor, then the notices in their
order and the one recomputation. -/
def State.completeTrack (s : State) (f : Flight) (es : List DoneEntry) : State :=
  let acc := s.trackApply f.zone (f.listen.zip es)
  let s := (s.withPaths acc.paths).healthApply (f.listen.zip es)
  let s := (s.raise (.measureDone (f.done .complete acc.entries none none))).raiseAll acc.notices
  (s.deafTrips es).recompute (s.zonesOnPaths acc.changed)

/-- The completion of a LOOP_INT (R123). -/
def State.completeLoopInt (s : State) (f : Flight) (mags : List (Nat × Nat)) : State :=
  s.raise (.measureDone (f.done .complete [] (some (loopPass mags f.period)) none))

/-- The latency a LOOP_EXT writes (R124): that of a FOUND entry. The result of a microphone that went DOWN in ANALYSE is not
applied (R156), judged by whether it is UP at the completion (DEDUCED: log entry 60). -/
def State.loopLatency (s : State) (es : List DoneEntry) : Option Nat :=
  (es.find? fun e => e.verdict == .found && (s.mic e.mic).up).bind fun e => e.tof.map Int.toNat

/-- A zone's output latency takes a measured value (R19). -/
def State.writeLatency (s : State) (z : Nat) (v : Option Nat) : State :=
  match v with
  | none => s
  | some x => s.setZone z { s.zone z with cfg := { (s.zone z).cfg with outLat := x } }

/-- The completion of a LOOP_EXT (R19, R124, R156). -/
def State.completeLoopExt (s : State) (f : Flight) (es : List DoneEntry) : State :=
  (s.writeLatency f.zone (s.loopLatency es)).raise (.measureDone (f.done .complete es none (s.loopLatency es)))

/-- The completion of a measurement (R122): its application, its notices, and the end of the flight. -/
def State.complete (s : State) (f : Flight) (es : List DoneEntry) (loop : List (Nat × Nat)) : State :=
  (match f.kind with
    | .survey => s.completeSurvey f es
    | .check => s.completeTrack f es
    | .track => s.completeTrack f es
    | .loopInt => s.completeLoopInt f loop
    | .loopExt => s.completeLoopExt f es).endFlight f

/-- The end of ANALYSE (R121, R122): the retry, or the completion. -/
def State.endAnalyse (s : State) (f : Flight) (rs : List Reading) (loop : List (Nat × Nat)) : State :=
  let es := f.listen.map (s.analyse f rs)
  if f.retries es then s.withFlight (some (s.retry f)) else (s.complete f es loop).conclude

/-- ANALYSE_END (R122). -/
def execAnalyseEnd (readings : List Reading) (loop : List (Nat × Nat)) (s : State) : Host.Outcome State Fault Refusal :=
  .next (match s.inPhase .analyse with
    | some f => s.endAnalyse f readings loop
    | none => s)

/-! ### The end of the ramp-out -/

/-- RAMP_OUT_END (R127): the measurement ends with its pending outcome. -/
def execRampOutEnd (s : State) : Host.Outcome State Fault Refusal :=
  .next (match s.inPhase .rampOut with
    | some f =>
      match f.pendingOutcome with
      | some o => (s.finish f o).conclude
      | none => s
    | none => s)

end Sys2Proof.Machine
end

