-- ==== Sys2Proof/Machine/MicCommands.lean ====
section
/-! DEFINITION. The meanings of MIC_SET, MIC_GET and MIC_RESTORE. -/

namespace Sys2Proof.Machine

/-- What the solver and the equaliser take from a MIC_SET (R32, R68, R159, R166): the paths of a microphone made UNUSED, or
the new region of one that stays in use. -/
def State.micChanged (s : State) (m : Nat) (old : Mic) : State :=
  let new := (s.mic m).cfg
  if old.cfg.inUse && !new.inUse then s.dropMicPaths m
  else if old.cfg.inUse && old.cfg.region != new.region then
    (s.reformSets (s.listensAt m)).recompute fun z => s.listensAt m z && (s.zone z).cfg.lead.isSome
  else s

/-- An accepted MIC_SET (R159). Where it makes the last HEARD microphone of a quiet wait UNUSED, the MEASURE_DONE with
NO_MICS comes before the ZONE_STATUS notices of the removed paths (DESIGN CHOICE: log entry 54). -/
def State.writeMic (s : State) (m : Nat) (c : MicCfg) : State :=
  ((s.configureMic m c).micChanged m (s.mic m)).settleQueue

/-- The examination of a MIC_SET (R159). The use field of the reply reports the use that it wrote (of a microphone made or
left UNUSED DEDUCED: log entry 58). -/
def State.micSet (b : List Byte) (s : State) : State × Answer :=
  let b := micSetNine b
  if 16 ≤ byteAt b 0 ∨ 2 ≤ byteAt b 1 ∨ 32 ≤ byteAt b 2 ∨ 8 ≤ byteAt b 7 then refuse .badValue s
  else (s.writeMic (byteAt b 0) (micSetCfg b).1, accepted (micSetCfg b).2 (.micSet (micSetCfg b).1.inUse))

/-- MIC_SET (R159). -/
def execMicSet (tag : Byte) (body : List Byte) (s : State) : Host.Outcome State Fault Refusal :=
  command 0x10 tag body (State.micSet body) s

/-- The standing of a microphone in the measurement in flight (R160). -/
def State.standingOf (s : State) (m : Nat) : Option Standing :=
  match s.flight with
  | none => none
  | some f => (f.listen.find? fun l => l.mic == m).map (·.standing)

/-- What MIC_GET reports (R160). -/
def State.micReport (s : State) (m : Nat) : MicReport :=
  let x := s.mic m
  { cfg := x.cfg, state := x.state, latched := x.latched, ambient := x.ambient, silentMs := x.silentMs, clip := x.clip
    ident := x.ident, deaf := x.deaf, paths := s.micPaths m, standing := s.standingOf m }

/-- The examination of a MIC_GET (R160). -/
def State.micGet (b : List Byte) (s : State) : State × Answer :=
  if 16 ≤ byteAt b 0 then refuse .badValue s else report (.mic (s.micReport (byteAt b 0))) s

/-- MIC_GET (R160). -/
def execMicGet (tag : Byte) (body : List Byte) (s : State) : Host.Outcome State Fault Refusal :=
  command 0x11 tag body (State.micGet body) s

/-- A microphone is restored, and the due zones it held back are admitted (R158). -/
def State.restoreMic (s : State) (m : Nat) : State := (s.setMic m (s.mic m).restored).settleQueue

/-- The examination of a MIC_RESTORE (R158). -/
def State.micRestore (b : List Byte) (s : State) : State × Answer :=
  if 16 ≤ byteAt b 0 then refuse .badValue s
  else if !(s.mic (byteAt b 0)).cfg.inUse then refuse .notFound s
  else (s.restoreMic (byteAt b 0), accepted [] .none)

/-- MIC_RESTORE (R158). -/
def execMicRestore (tag : Byte) (body : List Byte) (s : State) : Host.Outcome State Fault Refusal :=
  command 0x12 tag body (State.micRestore body) s

end Sys2Proof.Machine
end

