-- ==== Sys2Proof/Machine/MicEvents.lean ====
section
/-! DEFINITION. The meanings of the trips of the microphone health monitor (R152 to R156). Each row stands for its
occurrence: the counter stands at its threshold (log entries 2 and 33). -/

namespace Sys2Proof.Machine

/-- A signal condition of a microphone can trip: it is in use, its condition is enabled, and the audio frame clock is
present (R152 to R154, R161). -/
def State.watches (s : State) (m : Nat) (enabled : Conditions → Bool) : Bool :=
  (s.mic m).cfg.inUse && enabled (s.mic m).cfg.enables && s.clock.audio

/-- A trip with a counter at its threshold (R156). A frame or millisecond boundary may take several microphones down, and
all of them go in this one event, before the arbiter and the scheduler act on it. -/
def State.trip (s : State) (m : Nat) (x : Mic) : State := (s.setMic m x).tripAndDrop.conclude

/-- SILENT_TRIP (R152). -/
def execSilentTrip (m : Fin 16) (s : State) : Host.Outcome State Fault Refusal :=
  .next (if s.watches m (·.silent) then s.trip m { s.mic m with silentMs := 10000 } else s)

/-- OVERLOAD_TRIP (R153). -/
def execOverloadTrip (m : Fin 16) (s : State) : Host.Outcome State Fault Refusal :=
  .next (if s.watches m (·.overload) then s.trip m { s.mic m with clip := 32 } else s)

/-- OVERLOAD_WINDOW_END (R153): the next window begins with the clip count at 0. -/
def execOverloadWindowEnd (m : Fin 16) (s : State) : Host.Outcome State Fault Refusal :=
  .next (if (s.mic m).cfg.inUse && s.clock.audio then s.setMic m { s.mic m with clip := 0, windowPos := 0 } else s)

/-- STUCK_TRIP (R154). -/
def execStuckTrip (m : Fin 16) (s : State) : Host.Outcome State Fault Refusal :=
  .next (if s.watches m (·.stuck) then s.trip m { s.mic m with ident := 4800 } else s)

/-- DEAF_TRIP (R155). -/
def execDeafTrip (m : Fin 16) (s : State) : Host.Outcome State Fault Refusal :=
  .next (if (s.mic m).cfg.inUse && (s.mic m).cfg.enables.deaf then s.trip m { s.mic m with deaf := 8 } else s)

end Sys2Proof.Machine
end

