-- ==== Sys2Proof/Machine/PathCommands.lean ====
section
/-! DEFINITION. The meanings of PATH_SET, PATH_DROP and PATH_GET. -/

namespace Sys2Proof.Machine

/-- The position of the record of a pair: the count of the records before it (R20). -/
def State.pathPosition (s : State) (z m : Nat) : Nat := s.paths.findIdx fun p => p.zone == z && p.mic == m

/-- An accepted PATH_SET (R26, R27). -/
def State.enterPath (s : State) (z m dist : Nat) : State :=
  ((s.withPaths (writePath s.paths (freshPath z m dist .entered))).pathsChanged [(z, m)]).settleQueue

/-- The examination of a PATH_SET (R25). -/
def State.pathSet (b : List Byte) (s : State) : State × Answer :=
  let z := byteAt b 0
  let m := byteAt b 1
  let d := clampNat none 1 0 400000 (u32At b 2)
  if 48 ≤ z ∨ 16 ≤ m then refuse .badValue s
  else if !(s.zone z).cfg.active then refuse .notFound s
  else if !(s.mic m).cfg.inUse then refuse .notFound s
  else if !hasPlace s.paths z m then refuse .tableFull s
  else (s.enterPath z m d.1, accepted d.2 (.pathSet (s.pathPosition z m) (s.path z m).isNone))

/-- PATH_SET (R25). -/
def execPathSet (tag : Byte) (body : List Byte) (s : State) : Host.Outcome State Fault Refusal :=
  command 0x0C tag body (State.pathSet body) s

/-- A path matches two selectors (R31, R35). -/
def pathSelected (zs ms : Option Nat) (p : Path) : Bool := selects zs p.zone && selects ms p.mic

/-- The paths that match are removed, with one recomputation for the whole command (R31). -/
def State.removePaths (s : State) (zs ms : Option Nat) : State :=
  ((s.withPaths (s.paths.filter fun p => !pathSelected zs ms p)).pathsChanged
    ((s.paths.filter (pathSelected zs ms)).map fun p => (p.zone, p.mic))).settleQueue

/-- The examination of a PATH_DROP (R31). -/
def State.pathDrop (b : List Byte) (s : State) : State × Answer :=
  let zs := selector (byteAt b 0)
  let ms := selector (byteAt b 1)
  let n := s.paths.countP (pathSelected zs ms)
  if !optBelow zs 48 || !optBelow ms 16 then refuse .badValue s
  else if zs.isSome && ms.isSome && n == 0 then refuse .notFound s
  else (s.removePaths zs ms, accepted [] (.pathDrop n))

/-- PATH_DROP (R31). -/
def execPathDrop (tag : Byte) (body : List Byte) (s : State) : Host.Outcome State Fault Refusal :=
  command 0x0D tag body (State.pathDrop body) s

/-- What PATH_GET in one-path form reports (R34). -/
def State.pathReport (s : State) (p : Path) : PathReport :=
  let t := s.pathTemp p.zone p.mic
  { position := s.pathPosition p.zone p.mic, path := p, temp := t, speed := speedOfSound t, pred := s.pred p
    eff := s.tofEff p }

/-- PATH_GET in one-path form (R34). -/
def State.pathGetOne (b : List Byte) (s : State) : State × Answer :=
  if 48 ≤ byteAt b 0 ∨ 16 ≤ byteAt b 1 then refuse .badValue s
  else
    match s.path (byteAt b 0) (byteAt b 1) with
    | none => refuse .notFound s
    | some p => report (.pathOne (s.pathReport p)) s

/-- The entries of a listing: the matching paths at positions from `start` onward, at most 48 (R35). -/
def State.pathEntries (s : State) (zs ms : Option Nat) (start : Nat) : List PathListEntry :=
  (((s.paths.zipIdx.filter fun x => pathSelected zs ms x.1 && decide (start ≤ x.2)).map fun x =>
    (⟨x.2, x.1.zone, x.1.mic, x.1.origin, x.1.tracker⟩ : PathListEntry))).take 48

/-- PATH_GET in listing form (R35). -/
def State.pathGetListing (b : List Byte) (s : State) : State × Answer :=
  let zs := selector (byteAt b 0)
  let ms := selector (byteAt b 1)
  if !optBelow zs 48 || !optBelow ms 16 || 192 ≤ byteAt b 2 then refuse .badValue s
  else report (.pathListing (s.paths.countP (pathSelected zs ms)) (s.pathEntries zs ms (byteAt b 2))) s

/-- PATH_GET by its form, which the body's length names (R191). -/
def State.pathGet (b : List Byte) (s : State) : State × Answer :=
  if b.length = 3 then State.pathGetListing b s else State.pathGetOne b s

/-- PATH_GET, the row of the one-path form (R34). -/
def execPathGetOne (tag : Byte) (body : List Byte) (s : State) : Host.Outcome State Fault Refusal :=
  command 0x0E tag body (State.pathGet body) s

/-- PATH_GET, the row of the listing form (R35). -/
def execPathGetListing (tag : Byte) (body : List Byte) (s : State) : Host.Outcome State Fault Refusal :=
  command 0x0E tag body (State.pathGet body) s

end Sys2Proof.Machine
end

