-- ==== Sys2Proof/Machine/QueueCommands.lean ====
section
/-! DEFINITION. The meanings of PROBE_REQUEST, PROBE_CANCEL and QUEUE_GET. -/

namespace Sys2Proof.Machine

/-! ### PROBE_REQUEST -/

/-- The HOST entry a PROBE_REQUEST forms (R95). -/
def State.requestEntry (s : State) (b : List Byte) (k : Kind) : Entry :=
  { zone := byteAt b 0, cls := .host, kind := k, listen := requestMics b, level := (requestLevel b).1
    repeats := (requestRepeats b).1, admitted := s.seconds }

/-- The queue without the AUTO entry of a zone (R96). -/
def State.displaced (s : State) (z : Nat) : List Entry := s.queue.filter fun e => !(e.zone == z && e.cls == .auto)

/-- Steps 4 to 8 of Figure 6-2: the refusal, if one of them refuses. -/
def State.requestRefusal (s : State) (z : Nat) (k : Kind) (mics : List Nat) : Option Status :=
  if !(s.zone z).cfg.active then some .notFound
  else if mics.any fun m => !(s.mic m).cfg.inUse then some .notFound
  else if k != .loopInt && s.effMuted z then some .busy
  else if s.flight.any fun f => f.zone == z then some .busy
  else if s.queue.any fun e => e.zone == z && e.cls == .host then some .duplicate
  else if 32 ≤ (s.displaced z).length then some .queueFull
  else none

/-- An accepted PROBE_REQUEST (R95, R96): the entry joins the end of the queue and the arbiter considers it. -/
def State.admitRequest (s : State) (b : List Byte) (k : Kind) : State × Answer :=
  let z := byteAt b 0
  let q := s.displaced z
  let t := (s.withQueue (q ++ [s.requestEntry b k])).settleQueue
  let started := !(t.queue.any fun e => e.zone == z && e.cls == .host)
  (t, { status := .accepted, data := .probe q.length (requestLevel b).2 (requestRepeats b).2 started })

/-- The examination of a PROBE_REQUEST in the order of Figure 6-2 (R94). -/
def State.probeRequest (b : List Byte) (s : State) : State × Answer :=
  if 48 ≤ byteAt b 0 then refuse .badValue s
  else
    match requestKind (byteAt b 1) with
    | none => refuse .badValue s
    | some k =>
      if !requestMicsOk k (requestMics b) then refuse .badValue s
      else
        match s.requestRefusal (byteAt b 0) k (requestMics b) with
        | some st => refuse st s
        | none => s.admitRequest b k

/-- PROBE_REQUEST (R94). -/
def execProbeRequest (tag : Byte) (body : List Byte) (s : State) : Host.Outcome State Fault Refusal :=
  command 0x1C tag body (State.probeRequest body) s

/-! ### PROBE_CANCEL -/

/-- The selected entries are removed with no notice, and each removed AUTO entry's zone takes a new due time (R98, R104). -/
def State.cancelEntries (s : State) (sel : Option Nat) : State :=
  let gone := s.queue.filter fun e => selects sel e.zone
  (gone.filter fun e => e.cls == .auto).foldl (fun s e => s.restartDue e.zone)
    (s.withQueue (s.queue.filter fun e => !selects sel e.zone))

/-- The flight a PROBE_CANCEL aborts: one of a selected zone with no pending outcome (R104). -/
def State.cancels (s : State) (sel : Option Nat) : Bool :=
  s.flight.any fun f => selects sel f.zone && f.pendingOutcome.isNone

/-- An accepted PROBE_CANCEL (R104). -/
def State.cancel (s : State) (sel : Option Nat) : State :=
  ((s.cancelEntries sel).abortWhere (selects sel) false .cancelled).settleQueue

/-- The examination of a PROBE_CANCEL (R104). -/
def State.probeCancel (b : List Byte) (s : State) : State × Answer :=
  let sel := selector (byteAt b 0)
  if !optBelow sel 48 then refuse .badValue s
  else (s.cancel sel, accepted [] (.cancel (s.queue.countP fun e => selects sel e.zone) (s.cancels sel)))

/-- PROBE_CANCEL (R104). -/
def execProbeCancel (tag : Byte) (body : List Byte) (s : State) : Host.Outcome State Fault Refusal :=
  command 0x1D tag body (State.probeCancel body) s

/-! ### QUEUE_GET -/

/-- QUEUE_GET in entries form (R109). -/
def State.queueEntries (s : State) : ReplyData :=
  .entries s.queue.length (s.queue.countP fun e => e.cls == .auto) s.queue
    (s.flight.map fun f => ⟨f.zone, f.cls, f.kind, f.phase, f.attempt⟩) s.holdOn s.frozen s.clock.audio

/-- QUEUE_GET in schedule form (R110): the seconds to the due time, truncated, 0 when it has passed. -/
def State.queueSchedule (s : State) : ReplyData :=
  .schedule ((zoneNumbers.filter s.tracked).map fun z =>
    (z, ((s.dueAt z).getD 0 - s.clock.now) / tickSec, if s.zoneDue z then s.blocked z else none))

/-- QUEUE_GET by its form byte (R109). -/
def State.queueGet (b : List Byte) (s : State) : State × Answer :=
  match byteAt b 0 with
  | 0 => report s.queueEntries s
  | 1 => report s.queueSchedule s
  | _ => refuse .badValue s

/-- QUEUE_GET, the row of the entries form (R109). -/
def execQueueGetEntries (tag : Byte) (body : List Byte) (s : State) : Host.Outcome State Fault Refusal :=
  command 0x1E tag body (State.queueGet body) s

/-- QUEUE_GET, the row of the schedule form (R110). -/
def execQueueGetSchedule (tag : Byte) (body : List Byte) (s : State) : Host.Outcome State Fault Refusal :=
  command 0x1E tag body (State.queueGet body) s

end Sys2Proof.Machine
end

