-- ==== Sys2Proof/Machine/ZoneCommands.lean ====
section
/-! DEFINITION. The meanings of ZONE_SET, ZONE_GET and ZONE_MUTE. -/

namespace Sys2Proof.Machine

/-- ZONE_SET with state UNUSED for a zone number in range: step 3 of Figure 1-3 and retirement (R13). -/
def State.zoneUnused (z : Nat) (s : State) : State × Answer :=
  if !(s.zone z).cfg.active then (s, accepted [] .none)
  else if (s.dependants z).isEmpty then ((s.retireZone z).settleQueue, accepted [] .none)
  else refuse .conflict s

/-- Step 5 of Figure 1-3: the chain checks where a lead is present. -/
def State.zoneChainOk (s : State) (z : Nat) (c : ZoneCfg) : Bool := c.lead.all fun l => s.chainOk z l c.mic

/-- ZONE_SET with state ACTIVE for a zone number in range: steps 4 to 6 of Figure 1-3, then activation (R11) or
reconfiguration (R12). -/
def State.zoneActive (z : Nat) (b : List Byte) (s : State) : State × Answer :=
  let c := (zoneSetCfg b).1
  if !zoneSetRanges b then refuse .badValue s
  else if !s.zoneChainOk z c then refuse .conflict s
  else
    ((if (s.zone z).cfg.active then s.reconfigureZone z c else s.activateZone z c).settleQueue,
      accepted (zoneSetCfg b).2 .none)

/-- The examination of a ZONE_SET in the order of Figure 1-3 (R9). -/
def State.zoneSet (b : List Byte) (s : State) : State × Answer :=
  let z := byteAt b 0
  if 48 ≤ z then refuse .badValue s
  else
    match byteAt b 1 with
    | 0 => s.zoneUnused z
    | 1 => State.zoneActive z b s
    | _ => refuse .badValue s

/-- ZONE_SET (R9). -/
def execZoneSet (tag : Byte) (body : List Byte) (s : State) : Host.Outcome State Fault Refusal :=
  command 0x08 tag body (State.zoneSet body) s

/-- What ZONE_GET reports (R17). -/
def State.zoneReport (s : State) (z : Nat) : ZoneReport :=
  let zn := s.zone z
  { cfg := zn.cfg, hostMute := zn.hostMute, effMute := s.effMuted z, level := s.level z, dependants := s.dependants z
    target := zn.target, status := zn.status, running := zn.running, transition := zn.transition }

/-- The examination of a ZONE_GET (R17). -/
def State.zoneGet (b : List Byte) (s : State) : State × Answer :=
  if 48 ≤ byteAt b 0 then refuse .badValue s else report (.zone (s.zoneReport (byteAt b 0))) s

/-- ZONE_GET (R17). -/
def execZoneGet (tag : Byte) (body : List Byte) (s : State) : Host.Outcome State Fault Refusal :=
  command 0x09 tag body (State.zoneGet body) s

/-- A zone's host mute takes a value, with the effects of a change of effective mute (R14, R16). -/
def State.setHostMute (s : State) (z : Nat) (on : Bool) : State :=
  ((s.setZone z { s.zone z with hostMute := on }).mutesChanged (fun x => x == z) s.effMuted).settleQueue

/-- The examination of a ZONE_MUTE (R14). -/
def State.zoneMute (b : List Byte) (s : State) : State × Answer :=
  if 48 ≤ byteAt b 0 ∨ 2 ≤ byteAt b 1 then refuse .badValue s
  else if !(s.zone (byteAt b 0)).cfg.active then refuse .notFound s
  else (s.setHostMute (byteAt b 0) (byteAt b 1 == 1), accepted [] .none)

/-- ZONE_MUTE (R14). -/
def execZoneMute (tag : Byte) (body : List Byte) (s : State) : Host.Outcome State Fault Refusal :=
  command 0x0A tag body (State.zoneMute body) s

end Sys2Proof.Machine
end

