-- ==== Sys2Proof/Machine/Dispatch.lean ====
section
/-! DEFINITION. One arm for each command: the meaning of each row of spec/opcode_table.json. -/

namespace Sys2Proof.Machine

def exec (i : Instr) (s : State) : Host.Outcome State Fault Refusal :=
  match i with
  | .startUp strap0 strap1 levels imageIntact => Sys2Proof.Machine.execStartUp strap0 strap1 levels imageIntact s
  | .frameReceived kind tag body check => Sys2Proof.Machine.execFrameReceived kind tag body check s
  | .frameAbandoned cause => Sys2Proof.Machine.execFrameAbandoned cause s
  | .interByteTimeout => Sys2Proof.Machine.execInterByteTimeout s
  | .unknownKindCommand kind tag body => Sys2Proof.Machine.execUnknownKindCommand kind tag body s
  | .hello tag body => Sys2Proof.Machine.execHello tag body s
  | .resetFull tag body => Sys2Proof.Machine.execResetFull tag body s
  | .resetAlign tag body => Sys2Proof.Machine.execResetAlign tag body s
  | .resume tag body => Sys2Proof.Machine.execResume tag body s
  | .globalSet tag body => Sys2Proof.Machine.execGlobalSet tag body s
  | .globalGet tag body => Sys2Proof.Machine.execGlobalGet tag body s
  | .zoneSet tag body => Sys2Proof.Machine.execZoneSet tag body s
  | .zoneGet tag body => Sys2Proof.Machine.execZoneGet tag body s
  | .zoneMute tag body => Sys2Proof.Machine.execZoneMute tag body s
  | .pathSet tag body => Sys2Proof.Machine.execPathSet tag body s
  | .pathDrop tag body => Sys2Proof.Machine.execPathDrop tag body s
  | .pathGetOne tag body => Sys2Proof.Machine.execPathGetOne tag body s
  | .pathGetListing tag body => Sys2Proof.Machine.execPathGetListing tag body s
  | .micSet tag body => Sys2Proof.Machine.execMicSet tag body s
  | .micGet tag body => Sys2Proof.Machine.execMicGet tag body s
  | .micRestore tag body => Sys2Proof.Machine.execMicRestore tag body s
  | .sensorSet tag body => Sys2Proof.Machine.execSensorSet tag body s
  | .sensorGet tag body => Sys2Proof.Machine.execSensorGet tag body s
  | .regionOverrideSet tag body => Sys2Proof.Machine.execRegionOverrideSet tag body s
  | .regionOverrideClear tag body => Sys2Proof.Machine.execRegionOverrideClear tag body s
  | .regionGet tag body => Sys2Proof.Machine.execRegionGet tag body s
  | .eqSet tag body => Sys2Proof.Machine.execEqSet tag body s
  | .eqGet tag body => Sys2Proof.Machine.execEqGet tag body s
  | .probeRequest tag body => Sys2Proof.Machine.execProbeRequest tag body s
  | .probeCancel tag body => Sys2Proof.Machine.execProbeCancel tag body s
  | .queueGetEntries tag body => Sys2Proof.Machine.execQueueGetEntries tag body s
  | .queueGetSchedule tag body => Sys2Proof.Machine.execQueueGetSchedule tag body s
  | .lineSet tag body => Sys2Proof.Machine.execLineSet tag body s
  | .lineGet tag body => Sys2Proof.Machine.execLineGet tag body s
  | .storeSave tag body => Sys2Proof.Machine.execStoreSave tag body s
  | .storeSaveComplete readBackMatches => Sys2Proof.Machine.execStoreSaveComplete readBackMatches s
  | .storeLoad tag body => Sys2Proof.Machine.execStoreLoad tag body s
  | .storeLoadComplete imageIntact => Sys2Proof.Machine.execStoreLoadComplete imageIntact s
  | .transmitEnd => Sys2Proof.Machine.execTransmitEnd s
  | .supervisionLapse => Sys2Proof.Machine.execSupervisionLapse s
  | .lineLevelChange line high => Sys2Proof.Machine.execLineLevelChange line high s
  | .sensorDue n => Sys2Proof.Machine.execSensorDue n s
  | .conversionWaitEnd => Sys2Proof.Machine.execConversionWaitEnd s
  | .clockStuck => Sys2Proof.Machine.execClockStuck s
  | .dataStuck => Sys2Proof.Machine.execDataStuck s
  | .sensorAttemptEnd result => Sys2Proof.Machine.execSensorAttemptEnd result s
  | .stalenessExpiry n => Sys2Proof.Machine.execStalenessExpiry n s
  | .holdExpiry r => Sys2Proof.Machine.execHoldExpiry r s
  | .millisecondBoundary => Sys2Proof.Machine.execMillisecondBoundary s
  | .delayXfadeEnd z => Sys2Proof.Machine.execDelayXfadeEnd z s
  | .fadeOutComplete z => Sys2Proof.Machine.execFadeOutComplete z s
  | .fadeInComplete z => Sys2Proof.Machine.execFadeInComplete z s
  | .eqXfadeEnd z => Sys2Proof.Machine.execEqXfadeEnd z s
  | .audioClockLoss => Sys2Proof.Machine.execAudioClockLoss s
  | .audioClockReturn => Sys2Proof.Machine.execAudioClockReturn s
  | .trackingDue z => Sys2Proof.Machine.execTrackingDue z s
  | .quietWaitLeave => Sys2Proof.Machine.execQuietWaitLeave s
  | .deferLimitExpiry => Sys2Proof.Machine.execDeferLimitExpiry s
  | .leadInEnd => Sys2Proof.Machine.execLeadInEnd s
  | .captureEnd => Sys2Proof.Machine.execCaptureEnd s
  | .analyseEnd readings loop => Sys2Proof.Machine.execAnalyseEnd readings loop s
  | .rampOutEnd => Sys2Proof.Machine.execRampOutEnd s
  | .silentTrip m => Sys2Proof.Machine.execSilentTrip m s
  | .overloadTrip m => Sys2Proof.Machine.execOverloadTrip m s
  | .overloadWindowEnd m => Sys2Proof.Machine.execOverloadWindowEnd m s
  | .stuckTrip m => Sys2Proof.Machine.execStuckTrip m s
  | .deafTrip m => Sys2Proof.Machine.execDeafTrip m s
  | .commandPhaseEnd => Sys2Proof.Machine.execCommandPhaseEnd s
  | .syncPairFound => Sys2Proof.Machine.execSyncPairFound s

end Sys2Proof.Machine
end

