-- ==== Sys2Proof/Machine/Frames.lean ====
section
/-! DEFINITION. The bytes of the frames the part sends (Figures 11-1 to 11-4, 11-9 to 11-11; R178, R179, R191). Where the
manual gives no layout the bytes are open (log entries 9 and 10). -/

namespace Sys2Proof.Machine

open Sys2Proof.Config

/-! ### Codes (Figures 11-2, 11-3, 11-11) -/

def Status.code : Status → Byte
  | .ok => 0x00#8
  | .accepted => 0x01#8
  | .clamped => 0x02#8
  | .busy => 0x10#8
  | .queueFull => 0x11#8
  | .duplicate => 0x12#8
  | .notFound => 0x13#8
  | .conflict => 0x14#8
  | .tableFull => 0x15#8
  | .badValue => 0x20#8
  | .badLength => 0x21#8
  | .unknownKind => 0x22#8

def Kind.code : Kind → Byte
  | .survey => 0#8
  | .check => 1#8
  | .track => 2#8
  | .loopInt => 3#8
  | .loopExt => 4#8

def EntryClass.code : EntryClass → Byte
  | .host => 0#8
  | .auto => 1#8

def MeasureOutcome.code : MeasureOutcome → Byte
  | .complete => 0#8
  | .cancelled => 1#8
  | .abortedHold => 2#8
  | .abortedMute => 3#8
  | .abortedReconfig => 4#8
  | .abortedClock => 5#8
  | .abortedReset => 6#8
  | .masked => 7#8
  | .noMics => 8#8
  | .removed => 9#8

def Verdict.code : Verdict → Byte
  | .found => 0#8
  | .lowPnr => 1#8
  | .outsideGate => 2#8
  | .implausible => 3#8
  | .masked => 4#8
  | .micDown => 5#8
  | .tableFull => 6#8
  | .notRun => 7#8

def Effect.code : Effect → Byte
  | .none => 0#8
  | .distanceSet => 1#8
  | .corrected => 2#8
  | .missCounted => 3#8

def Notice.kind : Notice → Byte
  | .measureDone _ => 0x40#8
  | .pathLock _ _ _ _ _ _ _ _ _ => 0x41#8
  | .zoneStatus _ _ _ _ _ => 0x42#8
  | .micDown _ _ _ _ _ _ _ _ _ => 0x43#8
  | .sensorState _ _ _ _ _ _ _ _ => 0x44#8
  | .regionState _ _ _ _ _ _ => 0x45#8
  | .lapse _ _ _ => 0x46#8
  | .storeDone _ _ _ => 0x47#8
  | .lineChange _ _ _ => 0x48#8

/-! ### Bodies -/

/-- A byte whose low bits are the flags of a list, the first in bit 0. -/
def flagByte (flags : List Bool) : Byte := BitVec.ofNat 8 (flags.foldr (fun b n => 2 * n + b.toNat) 0)

/-- The bytes of a clamp item (R178): the identifier, after the band's place for EQ_SET. -/
def ClampItem.bytes (c : ClampItem) : List Byte :=
  match c.place with
  | some p => [BitVec.ofNat 8 p, BitVec.ofNat 8 c.ident]
  | none => [BitVec.ofNat 8 c.ident]

/-- The bytes of a command's reply data: none, the two of Figure 11-9, or open. -/
def ReplyData.bytes : ReplyData → List Byte
  | .none => []
  | .probe position level repeats started => [BitVec.ofNat 8 position, flagByte [level, repeats, started]]
  | d => replyDataBytes d

/-- The body of a reply (R178): the status byte, the clamp list of a CLAMPED reply, and the reply data. -/
def Answer.bytes (a : Answer) : List Byte :=
  a.status.code ::
    (match a.status with
      | .ok => a.data.bytes
      | .accepted => a.data.bytes
      | .clamped => BitVec.ofNat 8 a.clamps.length :: (a.clamps.flatMap ClampItem.bytes ++ a.data.bytes)
      | _ => [])

/-- An entry of a MEASURE_DONE body (Figure 11-10); the bytes of an absent field are 0 here and are ignored (R191). -/
def DoneEntry.bytes (e : DoneEntry) : List Byte :=
  [BitVec.ofNat 8 e.mic, e.verdict.code, e.effect.code, flagByte [e.arrival.isSome, e.pnr.isSome, e.tof.isSome]] ++
    bytes4 (e.arrival.getD 0) ++ bytes2 (e.pnr.getD 0) ++ bytes4s (e.tof.getD 0)

/-- A MEASURE_DONE body after its header byte (Figure 11-10). -/
def MeasureDone.bytes (d : MeasureDone) : List Byte :=
  [BitVec.ofNat 8 d.zone, d.kind.code, d.cls.code, d.outcome.code, BitVec.ofNat 8 d.attempts, BitVec.ofInt 8 d.level,
    flagByte [d.loop.isSome, d.loop == some true, d.newLatency.isSome]] ++
    bytes4 (d.newLatency.getD 0) ++ [BitVec.ofNat 8 d.entries.length] ++ d.entries.flatMap DoneEntry.bytes

/-- A notice's body (R179): its header byte, whose bit 0 carries the dropped flag, then the notice's fields. -/
def noticeBody (dropped : Bool) (n : Notice) : List Byte :=
  flagByte [dropped] :: (match n with | .measureDone d => d.bytes | n => noticeBodyBytes n)

/-! ### Frames -/

/-- A frame in the format of Figure 11-1. -/
def frameBytes (kind tag : Byte) (body : List Byte) : List Byte :=
  [0xA5#8, 0x5A#8] ++ coveredBytes kind tag body ++ bytes2 (frameCheck kind tag body).toNat

/-- The bytes of the frame the transmitter sends (R179). -/
def TxFrame.bytes : TxFrame → List Byte
  | .reply r => frameBytes r.kind r.tag r.answer.bytes
  | .notice dropped n => frameBytes n.kind (noticeTag n) (noticeBody dropped n)

end Sys2Proof.Machine
end

