-- ==== Sys2Proof/Machine/Tick.lean ====
section
/-! DEFINITION. What the part does by itself on an empty queue (log entries 1, 6, 7 and 18): an event whose moment has come
joins the queue; else the receiver takes one byte; else one tick of 1/48,000 s passes, with one audio frame where one is
presented. -/

namespace Sys2Proof.Machine

open Sys2Proof.Config

/-! ### The event that is due -/

/-- An event of the first record of a table that meets a condition. -/
def firstOf {n : Nat} (p : Nat → Bool) (mk : Fin n → Instr) : Option Instr :=
  ((List.finRange n).find? fun (i : Fin n) => p i.val).map mk

/-- The oldest waiting command, when the reply slot is empty (R177, R190). -/
def State.dueCommand (s : State) : Option Instr :=
  if s.link.reply.isSome || s.link.resetting then none else s.link.commands.head?.map RxCommand.row

/-- More than 10 ms have passed since the last byte of a frame (R175). -/
def State.byteLate (s : State) : Bool := s.link.rx.lastByte.any fun t => t + 10 * tickMs < s.clock.now

/-- Fades and crossfades whose count is complete (R83, R85, R168), and the millisecond boundary (R78). -/
def State.dueAudio (s : State) : Option Instr :=
  (firstOf (fun z => (s.zone z).stage == .fadingOut && (s.zone z).fade == 0) .fadeOutComplete) <|>
  (firstOf (fun z => (s.zone z).stage == .fadingIn && 960 ≤ (s.zone z).fade) .fadeInComplete) <|>
  (firstOf (fun z => match (s.zone z).transition with | .xfade _ _ k => 960 ≤ k | _ => false) .delayXfadeEnd) <|>
  (firstOf (fun z => (s.zone z).eq.xfade.any fun x => 480 ≤ x.elapsed) .eqXfadeEnd) <|>
  (if s.clock.audio && 48 ≤ s.clock.frames then some .millisecondBoundary else none)

/-- The row of a condition that a microphone in use meets (R152 to R156). -/
def State.dueTrip (s : State) (m : Fin 16) : Option Instr :=
  let c := (s.mic m).tripping
  if !(s.mic m).cfg.inUse then none
  else if s.clock.audio && c.silent then some (.silentTrip m)
  else if s.clock.audio && c.overload then some (.overloadTrip m)
  else if s.clock.audio && c.stuck then some (.stuckTrip m)
  else if c.deaf then some (.deafTrip m)
  else none

/-- The first microphone with a trip, whose row takes down every microphone that has one (R156), then the end of an overload window (R153). -/
def State.dueMic (s : State) : Option Instr :=
  ((List.finRange 16).findSome? s.dueTrip) <|>
  (firstOf (fun m => (s.mic m).cfg.inUse && s.clock.audio && 48000 ≤ (s.mic m).windowPos) .overloadWindowEnd)

/-- The readings of a flight: the correlation of each HEARD microphone's accumulator (R117). -/
def Flight.readings (f : Flight) : List Reading :=
  (f.listen.filter fun l => l.standing == .heard).map fun l => ⟨l.mic, correlate f.order l.acc⟩

/-- The end of the phase a flight is in (R114 to R117, R127). Where a quiet level and the defer expiry fall together the level
is taken first (DESIGN CHOICE: log entry 18). -/
def State.duePhase (s : State) (f : Flight) : Option Instr :=
  match f.phase with
  | .quietWait =>
    if f.listen.any fun l => l.standing == .heard && s.quietAt l.mic then some .quietWaitLeave
    else if s.deferExpired then some .deferLimitExpiry
    else none
  | .leadIn => if f.period ≤ f.elapsed then some .leadInEnd else none
  | .capture => if f.repeats * f.period ≤ f.elapsed then some .captureEnd else none
  | .analyse => if f.ramp = 0 then some (.analyseEnd f.readings (correlate f.order f.loopAcc)) else none
  | .rampOut => if f.ramp = 0 then some .rampOutEnd else none

/-- Events of the sensor bus and the climate unit (R36, R37, R43, R51). -/
def State.dueClimate (s : State) : Option Instr :=
  (match s.bus.poll with
    | none => firstOf s.sensorDue .sensorDue
    | some p =>
      match p.phase with
      | .wait t => if t + 50 * tickMs ≤ s.clock.now then some .conversionWaitEnd else none
      | _ => none) <|>
  (firstOf s.staleNow .stalenessExpiry) <|> (firstOf s.holdExpired .holdExpiry)

/-- The supervision timer has expired (R180). -/
def State.supervisionOver (s : State) : Bool :=
  s.link.supervision == .watching && s.link.timerFrom + s.globals.supTime * tickSec < s.clock.now

/-- Three samples of a line agree on the other level (R183). -/
def State.dueLine (s : State) : Option Instr :=
  ((List.finRange 6).find? fun (l : Fin 6) => decide (3 ≤ (s.line l.val).agree)).map fun l => .lineLevelChange l (!(s.line l.val).taken)

/-- The tick about to come brings an audio frame. -/
def State.frameComes (s : State) : Bool := s.inputs.head?.any fun x => x.frame.isSome

/-- The audio frame clock is lost, or returns (R90, R91). -/
def State.dueClock (s : State) : Option Instr :=
  if s.clock.audio then (if s.clock.lastFrame + tickMs ≤ s.clock.now then some .audioClockLoss else none)
  else if s.frameComes then some .audioClockReturn
  else none

/-- The event whose moment has come, in the order of log entry 18. -/
def State.nextDue (s : State) : Option Instr :=
  s.dueCommand <|>
  (if s.byteLate then some .interByteTimeout else none) <|>
  s.dueAudio <|>
  s.dueMic <|>
  (s.flight.bind s.duePhase) <|>
  s.dueClimate <|>
  (if s.supervisionOver then some .supervisionLapse else none) <|>
  s.dueLine <|>
  (firstOf s.admissible .trackingDue) <|>
  s.dueClock

/-! ### One byte of the receive line -/

/-- What the receiver does with a byte after the sync pair (R175): it goes on, or the frame's end is the event. -/
def frameByte (bytes : List Byte) (now : Nat) : RxState × Option Instr :=
  let n := u16At bytes 0
  if bytes.length = 2 ∧ 1024 < n then (.assembling bytes now, some (.frameAbandoned .overLength))
  else if 6 ≤ bytes.length ∧ bytes.length = n + 6 then
    (.assembling bytes now,
      some (.frameReceived (bytes.getD 2 0#8) (bytes.getD 3 0#8) ((bytes.drop 4).take n)
        (BitVec.ofNat 16 (u16At bytes (n + 4)))))
  else (.assembling bytes now, none)

/-- The receiver takes one byte (R175): its next state, and the event the byte brings about. -/
def RxState.take (r : RxState) (now : Nat) (b : RxByte) : RxState × Option Instr :=
  match b with
  | none => (r, some (.frameAbandoned .lowStopBit))
  | some x =>
    match r with
    | .hunting => (if x = 0xA5#8 then .firstSync now else .hunting, none)
    | .firstSync _ =>
      if x = 0x5A#8 then (r, some .syncPairFound)
      else (if x = 0xA5#8 then .firstSync now else .hunting, none)
    | .assembling bytes _ => frameByte (bytes ++ [x]) now

/-- The receiver takes the oldest byte of the receive line. -/
def State.receiveByte (s : State) (b : RxByte) (rest : List RxByte) : State :=
  let r := s.link.rx.take s.clock.now b
  (s.withLink { s.link with rx := r.1, rxLine := rest }).withPending r.2.toList

/-! ### One audio frame -/

/-- The memory holds silence in the sample a delay in 1/48 subsample reads, or the newer of the two it lies between, and in
every older one. -/
def silentFrom (memory : List Int) (delay : Nat) : Bool := (memory.drop (delay / 768)).all (· == 0)

/-- The memory at a delay in 1/48 subsample (R78): a stored sample, or the value between two of them. Where the feed has not
come as far as the read point it is silence (R88, R91; DEDUCED: log entry 57). -/
def readMemory (memory : List Int) (delay : Nat) : Int :=
  if delay % 768 = 0 then memory.getD (delay / 768) 0
  else if silentFrom memory delay then 0
  else interpolate memory delay

/-- The read point in 1/48 subsample (R78): the running delay, approached evenly over the 48 frames after a glide step. The
first of them reads at the old value and the last at 47/48 of the way; the frame at the next boundary reads at the new one
(DESIGN CHOICE: log entry 43). -/
def Zone.readPoint (zn : Zone) (frames : Nat) : Nat :=
  match zn.slide with
  | none => zn.running * 48
  | some old => (old * (48 - frames) + zn.running * min frames 48)

/-- The sample the delay line gives (R78, R83). -/
def Zone.delayed (zn : Zone) (frames : Nat) : Int :=
  match zn.transition with
  | .xfade o d k => fadeGain (960 - k) (readMemory zn.memory (o * 48)) + fadeGain k (readMemory zn.memory (d * 48))
  | _ => readMemory zn.memory (zn.readPoint frames)

/-- One sample through a band with its filter memory (R163): a disabled band passes it unchanged, and an enabled one with a
cleared memory gives silence for silence and stays cleared (R88, R91; DEDUCED: log entry 57). -/
def bandStep (b : Band) (mem : Nat) (x : Int) : Int × Nat :=
  if !b.enabled then (x, mem)
  else if mem = 0 ∧ x = 0 then (0, 0)
  else (bandOut b mem x, bandNext b mem x)

/-- One sample through bands one after another, each with its filter memory (R163). -/
def bandsStep : List Band → List Nat → Int → Int × List Nat
  | [], _, x => (x, [])
  | b :: bs, mems, x =>
    let a := bandStep b (mems.headD 0) x
    let r := bandsStep bs mems.tail a.1
    (r.1, a.2 :: r.2)

/-- The air-loss shelf as a band (R164): a HIGH_SHELF at 8,000 Hz of Q 0.71; a gain of 0 passes the signal unchanged. -/
def shelfBand (shelf : Nat) : Band := ⟨.highShelf, 8000, shelf, 71, shelf != 0⟩

/-- One sample through the chain of a set (R163, R164): the bands in their order, then the shelf. -/
def chainStep (c : EqSet) (mems : List Nat) (x : Int) : Int × List Nat := bandsStep (c.bands ++ [shelfBand c.shelf]) mems x

/-- One sample through an equaliser (R168). -/
def Equaliser.step (e : Equaliser) (x : Int) : Int × Equaliser :=
  match e.xfade with
  | none =>
    let a := chainStep e.current e.memA x
    (a.1, { e with memA := a.2 })
  | some f =>
    let a := chainStep f.origin e.memA x
    let b := chainStep f.dest e.memB x
    (quotientWord ((480 - f.elapsed : Nat) * a.1 + f.elapsed * b.1) 480,
      { e with memA := a.2, memB := b.2, xfade := some { f with elapsed := min 480 (f.elapsed + 1) } })

/-- The probe sample that a flight adds to a zone at the injection point (R115, R123, R130). -/
def State.probeInto (s : State) (z : Nat) : Int :=
  match s.flight with
  | none => 0
  | some f =>
    if f.zone = z ∧ f.kind ≠ .loopInt ∧ f.phase ≠ .quietWait then
      fadeGain f.ramp (probeSign f.order (f.elapsed % f.period) * amplitude f.level)
    else 0

/-- The sample of a zone's feed in a frame (R3, R77). From a retirement on its feed is silence (R13, R89); for a zone that
is activated again while the fade-out of its retirement runs, until that fade-out is complete (DESIGN CHOICE: log entry
47). -/
def Zone.feedSample (zn : Zone) (words : List Int) : Int :=
  if zn.cfg.active && !zn.retiring then (match zn.cfg.feed with | some f => words.getD f 0 | none => 0) else 0

/-- The transition after one frame of a crossfade (R83). -/
def Transition.frame : Transition → Transition
  | .xfade o d k => .xfade o d (min 960 (k + 1))
  | t => t

/-- The fade position after one frame (R85). -/
def Zone.fadeStep (zn : Zone) : Nat :=
  match zn.stage with
  | .fadingOut => zn.fade - 1
  | .fadingIn => min 960 (zn.fade + 1)
  | _ => zn.fade

/-- A zone with the frame's feed sample in its memory (R77). -/
def Zone.feedIn (zn : Zone) (words : List Int) : Zone :=
  { zn with memory := (zn.feedSample words :: zn.memory).take 48004 }

/-- The zone record after one frame, its feed taken in. -/
def Zone.frame (zn : Zone) (frames : Nat) : Zone :=
  { zn with
    transition := zn.transition.frame, fade := zn.fadeStep
    eq := (zn.eq.step (zn.delayed frames)).2 }

/-- A sum as an output word: itself where a word holds it, else open (log entry 39). -/
def toWord (x : Int) : Int :=
  if -(2 : Int) ^ (wordBits - 1) ≤ x ∧ x < (2 : Int) ^ (wordBits - 1) then x else overWord x

/-- The word a zone puts on its output slot in a frame, its feed taken in (Figure 0-2; log entry 39). -/
def State.zoneOut (s : State) (z : Nat) (zn : Zone) (frames : Nat) : Int :=
  toWord <| fadeGain zn.fade ((zn.eq.step (zn.delayed frames)).1 + s.probeInto z)

/-- A sample is at full-scale magnitude (R153). -/
def clips (x : Int) : Bool := x == (2 : Int) ^ (wordBits - 1) - 1 || x == -(2 : Int) ^ (wordBits - 1)

/-- The identical run after a sample (R154). -/
def Mic.identStep (m : Mic) (x : Int) : Nat :=
  if !m.cfg.enables.stuck then 0
  else if m.history.head? = some x then min 4800 (m.ident + 1)
  else 1

/-- A microphone record after one frame (R151, R153, R154). -/
def Mic.frame (m : Mic) (words : List Int) : Mic :=
  let x := words.getD m.cfg.slot 0
  if m.cfg.inUse then
    { m with
      history := (x :: m.history).take 24000, ident := m.identStep x, windowPos := m.windowPos + 1
      clip := if m.cfg.enables.overload && clips x then min 32 (m.clip + 1) else m.clip }
  else m

/-- A sample summed into an accumulator at a place (R116). -/
def accAdd (acc : List Int) (i : Nat) (x : Int) : List Int :=
  if i < acc.length then acc.set i (acc.getD i 0 + x) else acc ++ List.replicate (i - acc.length) 0 ++ [x]

/-- The accumulators of a flight after a frame of CAPTURE (R116): the correlator of a LOOP_INT takes the probe itself, at
full ramp gain (R123). -/
def State.captureFrame (s : State) (f : Flight) (words : List Int) : Flight :=
  let i := f.elapsed % f.period
  { f with
    listen := f.listen.map fun l =>
      if l.standing = .heard then { l with acc := accAdd l.acc i (words.getD (s.mic l.mic).cfg.slot 0) } else l
    loopAcc := if f.kind = .loopInt then accAdd f.loopAcc i (probeSign f.order i * amplitude f.level) else f.loopAcc }

/-- The flight after one frame (R115 to R117, R127). -/
def State.flightFrame (s : State) (words : List Int) (f : Flight) : Flight :=
  match f.phase with
  | .quietWait => f
  | .leadIn => { f with ramp := min 960 (f.ramp + 1), elapsed := f.elapsed + 1 }
  | .capture => { s.captureFrame f words with elapsed := f.elapsed + 1 }
  | .analyse => { f with ramp := f.ramp - 1, elapsed := f.elapsed + 1 }
  | .rampOut => { f with ramp := f.ramp - 1, elapsed := f.elapsed + 1 }

/-- One audio frame: the words of the 32 input slots go in, the 48 output words come out. -/
def State.audioFrame (s : State) (words : List Int) : State :=
  let fed := tmap (fun _ zn => zn.feedIn words) s.zones
  let n := s.clock.frames
  let outs := tmap (fun z zn => s.zoneOut z zn n) fed
  let s := (s.withOutSlots outs).withFlight (s.flight.map (s.flightFrame words))
  let s := (s.withZones (tmap (fun _ zn => zn.frame n) fed)).withMics (tmap (fun _ m => m.frame words) s.mics)
  s.withClock { s.clock with lastFrame := s.clock.now, frames := n + 1 }

/-! ### One tick -/

/-- A line after a sample of its level (R183). -/
def Line.sample (x : Line) (high : Bool) : Line := { x with agree := if high = x.taken then 0 else min 3 (x.agree + 1) }

/-- The lines are sampled at every millisecond of the internal timebase (R183). -/
def State.sampleLines (s : State) : State :=
  if s.clock.now % tickMs = 0 then s.withLines (tmap (fun l x => x.sample (s.lineLevel l)) s.lines) else s

/-- What a tick's input brings besides its audio frame: line levels and bytes. -/
def State.takeInput (s : State) (x : TickInput) : State :=
  (s.withPins { s.pins with levels := x.levels.getD s.pins.levels }).withLink { s.link with rxLine := s.link.rxLine ++ x.bytes }

/-- One tick of 1/48,000 s (log entry 6). -/
def State.tick (s : State) : State :=
  let x := s.inputs.headD {}
  let s := (s.withInputs s.inputs.tail).withClock { s.clock with now := s.clock.now + 1 }
  let s := (s.takeInput x).sampleLines
  match x.frame with
  | some words => if s.clock.audio then s.audioFrame words else s
  | none => s

/-- What the part does on an empty queue (log entry 1). -/
def State.idle (s : State) : State :=
  match s.nextDue with
  | some i => s.withPending [i]
  | none =>
    match s.link.rxLine with
    | b :: rest => s.receiveByte b rest
    | [] => s.tick

end Sys2Proof.Machine
end

