-- ==== Sys2Proof/Safety.lean ====
section
/-! DEFINITION. The terms the claims use: what answering a command leaves of the control link, when a target is what
the solver's formula gives, and the laws of the records that every step keeps. -/

namespace Sys2Proof.Machine

/-! ### Answering a command -/

/-- The command handler may take a command: the reply slot is empty and no RESET FULL has been accepted (R177, R190). -/
def State.handlerFree (s : State) : Prop := s.link.reply = none ∧ s.link.resetting = false

/-- The reply to a command (R177): its kind plus 0x80 and its tag. -/
def RxCommand.replyWith (c : RxCommand) (a : Answer) : Reply := ⟨c.kind + 0x80#8, c.tag, a⟩

/-- The link once a command is answered: the command has left the command list, and its reply is on the line where the
transmitter was free, else in the reply slot (R177, R179). -/
def Link.answered (l : Link) (c : RxCommand) (a : Answer) : Link :=
  if l.tx.isNone then { l with commands := l.commands.erase c, tx := some (.reply (c.replyWith a)) }
  else { l with commands := l.commands.erase c, reply := some (c.replyWith a) }

/-- The state once a command is answered, when nothing else happens. -/
def State.answered (s : State) (c : RxCommand) (a : Answer) : State := s.withLink (s.link.answered c a)

/-- The state in which the handler, free, gives a command to its block: the command has left the command list (R177). -/
def State.taking (s : State) (c : RxCommand) : State :=
  s.withLink { s.link with commands := s.link.commands.erase c }

/-- The link with a reply placed into its empty reply slot: on the line where the transmitter is free (R177, R179). -/
def Link.placed (l : Link) (r : Reply) : Link :=
  if l.tx.isNone then { l with tx := some (.reply r) } else { l with reply := some r }

/-- The state with the reply to a command placed: the end of the command's handling (R177, R179). -/
def State.replied (s : State) (c : RxCommand) (a : Answer) : State := s.withLink (s.link.placed (c.replyWith a))

/-- The link once some notices are raised one after another (R179). -/
def Link.noted (l : Link) (ns : List Notice) : Link := ns.foldl Link.raise l

/-- From link `l` a command was answered: some notices were raised, the command has left the command list and its reply is
placed, and nothing else of the link differs (R177, R179). -/
def Link.Answers (l l' : Link) (c : RxCommand) (a : Answer) : Prop := ∃ ns, l' = (l.noted ns).answered c a

/-- From link `l` an event raised some notices and the transmitter then took its turn; nothing else of the link differs
(R179). -/
def Link.Notes (l l' : Link) : Prop := ∃ ns, l' = (l.noted ns).transmit

/-! ### Targets -/

/-- A zone's target, status and missing-term indication are those of R64 to R67, read from the state `t` that an event
leaves; `old` is the target the zone held before the event. -/
def State.Solved (t : State) (old : Nat) (z : Nat) : Prop :=
  match (t.zone z).cfg.lead, (t.zone z).cfg.mic with
  | none, _ => t.stored z = clampTarget ((t.zone z).cfg.base + (t.zone z).cfg.trim) .free
  | some _, none => t.stored z = ⟨old, .noPath, ⟨true, true⟩⟩
  | some l, some m =>
    match t.path l m, t.path z m with
    | some pl, some po =>
      t.stored z = clampTarget
        (((t.zone l).target : Int) + t.tofEff pl - t.tofEff po + (t.zone z).cfg.prec + (t.zone z).cfg.trim) .aligned
    | lead, own => t.stored z = ⟨old, .noPath, ⟨lead.isNone, own.isNone⟩⟩

/-- The zones hold what they held but for their solver fields, their running delay and its transition, and the sets their
equalisers were given: configuration, host mute, host bands, mute stage and memory are as they were (R59, R68, R166). -/
def State.ZonesMoved (s t : State) : Prop :=
  ∀ z, t.zone z = { s.zone z with
    target := (t.zone z).target, status := (t.zone z).status, missing := (t.zone z).missing,
    running := (t.zone z).running, transition := (t.zone z).transition,
    eq := { (t.zone z).eq with bands := (s.zone z).eq.bands } }

/-! ### The notices of an event -/

/-- The ZONE_STATUS notices of an event that leaves state `t` (R71): each ACTIVE zone whose status is another than `prev`
gives it, in ascending zone order. -/
def State.statusNotices (t : State) (prev : Nat → SolverStatus) : List Notice :=
  ((List.range 48).filter fun z => (t.zone z).cfg.active && prev z != (t.zone z).status).map fun z =>
    .zoneStatus z (prev z) (t.zone z).status (t.zone z).target
      (if (t.zone z).status = .noPath then some (t.zone z).missing else none)

/-- The SENSOR_STATE notice of a sensor whose state differs between state `s` and state `t` (R46). -/
def State.sensorChange (s t : State) (n : Nat) : List Notice :=
  if (s.sensor n).state = (t.sensor n).state then []
  else
    [.sensorState n (s.sensor n).state (t.sensor n).state (t.sensor n).fails (t.sensor n).lastFail
      ((t.sensor n).reading.map fun x => x.temp) ((t.sensor n).reading.map fun x => x.hum) (t.sensor n).cfg.region]

/-- The REGION_STATE notice of a region whose state differs between state `s` and state `t` (R54). -/
def State.regionChange (s t : State) (r : Nat) : List Notice :=
  if (s.region r).state.kind = (t.region r).state.kind then []
  else
    [.regionState r (s.region r).state.kind (t.region r).state.kind (t.region r).temp (t.region r).hum
      (t.freshIn r).length]

/-! ### The end of a flight -/

/-- The MEASURE_DONE notice of a flight that ends without completing (R131, R132): DROPPED microphones have verdict
MIC_DOWN, MASKED ones MASKED, HEARD ones NOT_RUN. -/
def Flight.endNotice (f : Flight) (o : MeasureOutcome) : Notice :=
  .measureDone
    { zone := f.zone, kind := f.kind, cls := f.cls, outcome := o, attempts := f.attempt, level := f.level
      entries := f.listen.map fun (l : Listen) => { mic := l.mic, verdict := match l.standing with
        | .dropped => .micDown | .masked => .masked | .heard => .notRun } }

/-- The due times once a flight is over (R98, R103): that of its zone starts anew where the zone is tracked. -/
def State.dueAfter (s : State) (f : Flight) : Vector (Option Nat) 48 :=
  if (s.zone f.zone).cfg.active && (s.zone f.zone).cfg.tracking then
    tset s.due f.zone (some (s.clock.now + (s.zone f.zone).cfg.interval * 48000))
  else s.due

/-- The state in which a flight has ended without completing, when nothing else happens (R103, R131): the engine is IDLE,
MEASURE_DONE is raised with the outcome, and the due time of its zone starts anew. -/
def State.ended (s : State) (f : Flight) (o : MeasureOutcome) : State :=
  { s with flight := none, due := s.dueAfter f, link := s.link.noted [f.endNotice o] }

/-! ### Laws of the zone table -/

/-- The chain of a zone ends at a free zone after at most `n` steps from lead to lead. -/
def rooted (cfgs : Nat → ZoneCfg) : Nat → Nat → Prop
  | 0, z => (cfgs z).lead = none
  | n + 1, z => match (cfgs z).lead with
    | none => True
    | some l => rooted cfgs n l

/-- The law of R6 for a table of zone configurations: every lead of an ACTIVE zone is another ACTIVE zone and comes with a
listening microphone, and no chain is deeper than four levels, so none contains a cycle. -/
def chainLaw (cfgs : Nat → ZoneCfg) : Prop :=
  ∀ z, z < 48 → (cfgs z).active = true →
    rooted cfgs 3 z ∧ ∀ l, (cfgs z).lead = some l → l < 48 ∧ (cfgs l).active = true ∧ (cfgs z).mic.isSome = true

/-- What the solver and the equaliser make of changed published values (R59, R68, R166): the zones with a term path that
touches a region whose temperature changed, and the zones below them, are solved from the state `t` the event leaves; the
zones whose shelf reads a humidity that changed hold the set formed from it; the others are as they were. -/
def State.FollowsRegions (s t : State) : Prop :=
  let temp := fun r => (s.region r).temp != (t.region r).temp
  let hum := fun r => (s.region r).hum != (t.region r).hum
  let targets := fun d => (s.zone d).cfg.lead.any fun l => (s.zone d).cfg.mic.any fun m =>
    temp (s.zone d).cfg.region || temp (s.zone l).cfg.region || temp (s.mic m).cfg.region
  let shelves := fun d => (s.zone d).cfg.mic.any fun m => hum (s.zone d).cfg.region || hum (s.mic m).cfg.region
  s.ZonesMoved t ∧
    (s.frozen = false → chainLaw (fun d => (s.zone d).cfg) → ∀ d, d < 48 → (s.zone d).cfg.active = true →
      s.below targets 48 d = true → t.Solved (s.zone d).target d) ∧
    (∀ d, s.below targets 48 d = false ∨ s.frozen = true → t.stored d = s.stored d ∧
      (t.zone d).running = (s.zone d).running ∧ (t.zone d).transition = (s.zone d).transition) ∧
    (∀ d, d < 48 → shelves d = true → (s.zone d).cfg.active = true → (s.zone d).retiring = false →
      (t.zone d).eq.latest = ⟨(s.zone d).eq.bands, t.shelf d⟩) ∧
    ∀ d, shelves d = false → (t.zone d).eq = (s.zone d).eq

/-- The configuration of a zone as an image holds it. -/
def Image.zoneCfg (im : Image) (z : Nat) : ZoneCfg := tget im.zones z

/-- A law of images holds of the image in the store and of the snapshot a running save holds. -/
def State.storedLaw (s : State) (p : Image → Prop) : Prop :=
  (∀ x, s.store.image = some x → p x.contents) ∧ ∀ im, s.store.op = some (.save im) → p im

/-- The zone table keeps the law of R6, and so does every image the part holds. -/
def State.ChainLaw (s : State) : Prop :=
  chainLaw (fun z => (s.zone z).cfg) ∧ s.storedLaw fun im => chainLaw im.zoneCfg

/-! ### Laws of the delay lines -/

/-- The largest target and running delay: one second (R63, R77). -/
def delayLimit : Nat := 768000

/-- Target, running delay and the two ends of a crossfade lie within 0 to 768,000, and a crossfade has at most 960 samples
elapsed (R63, R77). -/
def Zone.DelaysInRange (zn : Zone) : Prop :=
  zn.target ≤ delayLimit ∧ zn.running ≤ delayLimit ∧
    match zn.transition with
    | .xfade o d k => o ≤ delayLimit ∧ d ≤ delayLimit ∧ k ≤ 960
    | _ => True

/-- Every zone keeps the law of R63 and R77. -/
def State.DelaysInRange (s : State) : Prop := ∀ z, (s.zone z).DelaysInRange

/-! ### Laws of the path table -/

/-- A correction lies within −960 and +960, and a path in ACQUIRE or TRACK has not reached the run that changes its state
(R138, R140, R142). -/
def Path.InRange (p : Path) : Prop :=
  -960 ≤ p.correction ∧ p.correction ≤ 960 ∧ p.goodRun < 3 ∧ p.missRun < 4

/-- At most 192 records, at most one for any pair (R20). -/
def onePathEach (keys : List (Nat × Nat)) : Prop := keys.length ≤ 192 ∧ keys.Nodup

/-- The path table keeps the laws of R20 and R138, and every image the part holds keeps that of R20. -/
def State.PathLaw (s : State) : Prop :=
  onePathEach (s.paths.map fun p => (p.zone, p.mic)) ∧ (∀ p ∈ s.paths, p.InRange) ∧
    s.storedLaw fun im => onePathEach (im.paths.map fun p => (p.zone, p.mic))

/-- Every pair names an ACTIVE zone and a microphone in use (R20). -/
def pathsName (active inUse : Nat → Bool) (keys : List (Nat × Nat)) : Prop :=
  ∀ k ∈ keys, active k.1 = true ∧ inUse k.2 = true

/-- A flight that no abort cause has reached is of an ACTIVE zone, and one that waits to end is in RAMP_OUT (R125, R127);
every entry that waits is of an ACTIVE zone (R94, R99, R106). -/
def State.FlightLaw (s : State) : Prop :=
  (∀ f, s.flight = some f →
    (f.pendingOutcome = none → (s.zone f.zone).cfg.active = true) ∧ (f.pendingOutcome ≠ none → f.phase = .rampOut)) ∧
    ∀ e ∈ s.queue, (s.zone e.zone).cfg.active = true

/-- Every path names an ACTIVE zone and a microphone in use (R20), and so does every path of an image the part holds; with
the law of the flights, whose results write paths. -/
def State.NamesLaw (s : State) : Prop :=
  pathsName (fun z => (s.zone z).cfg.active) (fun m => (s.mic m).cfg.inUse) (s.paths.map fun p => (p.zone, p.mic)) ∧
    s.FlightLaw ∧
    s.storedLaw fun im => pathsName (fun z => (im.zoneCfg z).active) (fun m => (tget im.mics m).inUse)
      (im.paths.map fun p => (p.zone, p.mic))

/-! ### Laws of the probe queue -/

/-- At most 32 entries, never two for one zone, and never one for the zone of the measurement in flight (R92). -/
def State.QueueLaw (s : State) : Prop :=
  s.queue.length ≤ 32 ∧ (s.queue.map fun e => e.zone).Nodup ∧
    ∀ f, s.flight = some f → ∀ e ∈ s.queue, e.zone ≠ f.zone

/-! ### Laws of the control link -/

/-- At most 4 commands and 32 notices wait (R176, R179), and an idle transmitter leaves no reply and no notice waiting
(R179). -/
def State.LinkLaw (s : State) : Prop :=
  s.link.commands.length ≤ 4 ∧ s.link.outbox.length ≤ 32 ∧
    (s.link.tx = none → s.link.reply = none ∧ s.link.outbox = [])

/-! ### Laws of the microphones -/

/-- The counters lie within the ranges of Figure 9-2, and a microphone is DOWN exactly while it has latched causes
(R156, R158). -/
def Mic.InRange (x : Mic) : Prop :=
  x.silentMs ≤ 10000 ∧ x.clip ≤ 32 ∧ x.ident ≤ 4800 ∧ x.deaf ≤ 8 ∧ (x.down = true ↔ x.latched ≠ {})

/-- Every microphone keeps the laws of chapter 9. -/
def State.MicLaw (s : State) : Prop := ∀ m, (s.mic m).InRange

/-! ### Laws of the climate unit -/

/-- A sensor is OFF exactly while it is disabled, a FRESH one has a reading, it counts at most three failures, and it lies
in a region (R41, R42, R44). -/
def Sensor.Lawful (x : Sensor) : Prop :=
  (x.state = .off ↔ x.cfg.enabled = false) ∧ (x.state = .fresh → x.reading.isSome = true) ∧ x.fails ≤ 3 ∧
    x.cfg.region < 8

/-- Every sensor keeps the laws of section 3.2, and the poll that occupies the bus is that of a sensor that is enabled
and calls its bus address, unless it is voided (R36, R37, R45); the sensors of every image the part holds lie in a region
(R44). -/
def State.SensorLaw (s : State) : Prop :=
  (∀ n, n < 8 → (s.sensor n).Lawful) ∧
    (∀ p, s.bus.poll = some p → p.sensor < 8 ∧
      (p.voided = false → (s.sensor p.sensor).cfg.enabled = true ∧ p.addr = (s.sensor p.sensor).cfg.addr)) ∧
    s.storedLaw fun im => ∀ n, n < 8 → (tget im.sensors n).region < 8

end Sys2Proof.Machine
end

