-- ==== Sys2Proof/Certificates/Slice0/Obligations.lean ====
section
/-! DEFINITION. The statements for the provers. A command is handled where the command handler is free
(`State.handlerFree`, R177); `State.answered` is the state in which it is answered and nothing else has happened. A
statement about a next state names the fields that may differ in a record update of the state before: every other field is
as it was. -/

open Sys2Proof Sys2Proof.Machine

/-! ### The machine and its commands -/

/-- One step takes the command at the front of the queue and runs it on the state with the queue's rest. On an empty queue
the step is the part's own: the event whose moment has come joins the queue; else the receiver takes one byte; else one
tick of 1/48,000 s passes: the timebase rises by one, the next input is presented, every line is sampled at each whole
millisecond, and an audio frame that is presented while the audio frame clock is present is processed. The queue and
this order are the model's own (log entries 1, 6, 7, 18 and 41). -/
def Obligations.StepRunsTheFrontCommand : Prop :=
  (∀ (c : Instr) (rest : List Instr) (s : State), s.pending = c :: rest → step s = exec c (s.withPending rest)) ∧
  ∀ (s : State), s.pending = [] →
    (∀ i, s.nextDue = some i → step s = .next { s with pending := [i] }) ∧
    (s.nextDue = none → ∀ b rest, s.link.rxLine = b :: rest →
      step s = .next { s with
        pending := (s.link.rx.take s.clock.now b).2.toList
        link := { s.link with rx := (s.link.rx.take s.clock.now b).1, rxLine := rest } }) ∧
    (s.nextDue = none → s.link.rxLine = [] →
      let x := s.inputs.headD {}
      ∃ u, step s = .next (match x.frame with
          | some words => if s.clock.audio then u.audioFrame words else u
          | none => u) ∧
        (∀ l, l < 6 → u.line l = (if u.clock.now % 48 = 0 then
            { s.line l with agree := if u.lineLevel l = (s.line l).taken then 0 else min 3 ((s.line l).agree + 1) }
          else s.line l)) ∧
        u = { s with inputs := s.inputs.tail, clock := { s.clock with now := s.clock.now + 1 }, lines := u.lines
                     pins := { s.pins with levels := x.levels.getD s.pins.levels }
                     link := { s.link with rxLine := x.bytes } })

/-- Right after reset every record holds its start-up value: the values of Figure 1-1, R63, R77, R85 and R162 for the
zones, Figure 3-1 and R36 for sensors and bus, R48 for regions, Figures 9-1 and 9-2 for microphones, R182 for lines,
Figure 11-7 for the settings, an empty path table, queue, outbox and command list, and no flight; the bus has had its nine
recovery clocks and a stop condition (R60), and lines 1 to 4 their first level, low on line 4 alone, which the part drives
low (R183, R184). The levels at the pins and the empty image are the model's choice (log entry 8). -/
def Obligations.ResetHoldsStartUpValues : Prop :=
  let s := State.reset
  (∀ z, z < 48 → (s.zone z).cfg = ⟨false, none, none, none, 0, 0, 0, 0, 0, 0, false, 60, 240, 8, 480⟩ ∧
    (s.zone z).hostMute = false ∧ (s.zone z).target = 0 ∧ (s.zone z).status = .free ∧ (s.zone z).held = .free ∧
    (s.zone z).running = 0 ∧ (s.zone z).transition = .steady ∧ (s.zone z).stage = .closed ∧ (s.zone z).fade = 0 ∧
    (s.zone z).eq.bands = [] ∧ (s.zone z).eq.current = ⟨[], 0⟩ ∧ (s.zone z).eq.xfade = none ∧
    (s.zone z).eq.pendingSet = none ∧ s.dueAt z = none) ∧
  s.paths = [] ∧ s.queue = [] ∧ s.flight = none ∧
  (∀ n, n < 8 → (s.sensor n).cfg = ⟨0x40 + n, 0, false⟩ ∧ (s.sensor n).state = .off ∧ (s.sensor n).reading = none ∧
    (s.sensor n).fails = 0 ∧ (s.sensor n).lastFail = none) ∧
  s.bus.poll = none ∧ s.bus.last = 7 ∧ s.bus.sent = List.replicate 9 .recoveryClock ++ [.stop] ∧
  (∀ r, r < 8 → s.region r = ⟨.deflt, 200, 50⟩) ∧
  (∀ m, m < 16 → (s.mic m).cfg = ⟨false, m + 16, 0, 0, ⟨true, true, true, true⟩⟩ ∧ (s.mic m).state = .unused ∧
    (s.mic m).latched = ⟨false, false, false, false⟩ ∧ (s.mic m).ambient = -1200 ∧ (s.mic m).silentMs = 0 ∧
    (s.mic m).clip = 0 ∧ (s.mic m).ident = 0 ∧ (s.mic m).deaf = 0) ∧
  (∀ l, l < 6 → (s.line l).cfg = ⟨false, false, true, false⟩ ∧ ((s.line l).taken = true ↔ l ≠ 4)) ∧
  s.globals = ⟨16, 4, -40, 150, -20, 60, 200, 50, 10, 900, 2, 0, false⟩ ∧
  s.link.commands = [] ∧ s.link.outbox = [] ∧ s.link.dropped = false ∧ s.link.supervision = .inactive ∧
  s.link.abandoned = 0 ∧ s.link.badCheck = 0 ∧ s.link.overrun = 0 ∧ s.link.foreign = 0

/-- Every received command is handled in one step and answered with one reply of its kind and tag, and it leaves the
command list, which a RESET FULL empties (R177, R190). -/
def Obligations.EveryCommandIsAnswered : Prop :=
  ∀ (c : RxCommand) (s : State), s.handlerFree → 1 ≤ c.kind.toNat → c.kind.toNat ≤ 0x3F →
    ∃ t a, exec c.row s = .next t ∧
      (s.link.tx = none → t.link.tx = some (.reply (c.replyWith a)) ∧ t.link.reply = none) ∧
      (s.link.tx ≠ none → t.link.tx = s.link.tx ∧ t.link.reply = some (c.replyWith a)) ∧
      t.link.commands = (if c.kind = 0x02#8 ∧ c.body = [1#8] then [] else s.link.commands.erase c) ∧
      s.link.outbox <+: t.link.outbox ∧ t.pending = s.pending

/-- A command of an assigned kind whose body has another length than those of Figure 11-12 is answered BAD_LENGTH and
changes nothing: 17 bytes for GLOBAL_SET, 28 for ZONE_SET, 2 or 3 for PATH_GET, 2 + 8n for an EQ_SET of n bands, 7 + n for a
PROBE_REQUEST of n microphones, and so on; for MIC_SET one length, 8 or 9, is left open (log entry 15) (R177, R191).
A command of a kind from 0x01 to 0x3F that Figure 11-2 does not assign is answered UNKNOWN_KIND, whatever its body,
and changes nothing (R177). -/
def Obligations.BadLengthsAndUnknownKindsAreRefused : Prop :=
  (∀ (c : RxCommand) (s : State), s.handlerFree →
    let k := c.kind.toNat
    let n := c.body.length
    (k ∈ [0x01, 0x03, 0x05, 0x21, 0x24, 0x25] ∧ n ≠ 0) ∨
      (k ∈ [0x02, 0x09, 0x11, 0x12, 0x15, 0x17, 0x19, 0x1D, 0x1E] ∧ n ≠ 1) ∨ (k ∈ [0x0A, 0x0D] ∧ n ≠ 2) ∨
      (k = 0x0E ∧ n ≠ 2 ∧ n ≠ 3) ∨ (k = 0x14 ∧ n ≠ 4) ∨ (k ∈ [0x16, 0x20] ∧ n ≠ 5) ∨ (k = 0x0C ∧ n ≠ 6) ∨
      (k = 0x10 ∧ n ≠ (if Config.micSetLong then 9 else 8)) ∨ (k = 0x04 ∧ n ≠ 17) ∨ (k = 0x08 ∧ n ≠ 28) ∨
      (k = 0x18 ∧ (n < 2 ∨ n ≠ 2 + 8 * byteAt c.body 1)) ∨ (k = 0x1C ∧ (n < 7 ∨ n ≠ 7 + byteAt c.body 6)) →
    exec c.row s = .next (s.answered c ⟨.badLength, [], .none⟩)) ∧
  (∀ (kind tag : Byte) (body : List Byte) (s : State), s.handlerFree → 1 ≤ kind.toNat → kind.toNat ≤ 0x3F →
      kind.toNat ∉ assignedKinds →
      exec (.unknownKindCommand kind tag body) s = .next (s.answered ⟨kind, tag, body⟩ ⟨.unknownKind, [], .none⟩))

/-! ### Commands that report and change nothing -/

/-- HELLO is answered OK with the device code 0x48, the version 1 and the values that the chapter lists, and changes
nothing (R189). GLOBAL_GET reports the thirteen settings as stored (R185). LINE_GET reports of each line its fields,
its taken level and, for the output functions of lines 1 to 4, whether the function is asserted (R182). Both change
nothing. QUEUE_GET with form byte 0 reports the waiting entries, their number and the number of AUTO entries, the
flight, HOLD, the freeze and the presence of the audio frame clock; with form byte 1 it reports of every tracked zone
the seconds to its due time and its first blocking condition when it is due. Another form byte is refused BAD_VALUE.
It changes nothing (R109, R110). -/
def Obligations.ThePartReportsItself : Prop :=
  (∀ (tag : Byte) (s : State), s.handlerFree →
      exec (.hello tag []) s = .next (s.answered ⟨0x01#8, tag, []⟩ ⟨.ok, [], .hello
        { device := 0x48, version := 1, speed := s.link.speed, loaded := s.store.loaded, valid := s.store.valid,
          storeBusy := s.store.op.isSome, seconds := s.clock.now / 48000, supervision := s.link.supervision,
          notices := s.link.outbox.length, dropped := s.link.dropped, abandoned := s.link.abandoned,
          badCheck := s.link.badCheck, overrun := s.link.overrun, foreign := s.link.foreign }⟩)) ∧
  (∀ (tag : Byte) (s : State), s.handlerFree →
      exec (.globalGet tag []) s = .next (s.answered ⟨0x05#8, tag, []⟩ ⟨.ok, [], .globals s.globals⟩) ∧
      exec (.lineGet tag []) s = .next (s.answered ⟨0x21#8, tag, []⟩ ⟨.ok, [], .lines
        [⟨(s.line 0).cfg, (s.line 0).taken, none⟩, ⟨(s.line 1).cfg, (s.line 1).taken, some s.probeActive⟩,
         ⟨(s.line 2).cfg, (s.line 2).taken, some s.lapseOn⟩, ⟨(s.line 3).cfg, (s.line 3).taken, some s.noticePending⟩,
         ⟨(s.line 4).cfg, (s.line 4).taken, some s.climateFault⟩, ⟨(s.line 5).cfg, (s.line 5).taken, none⟩]⟩)) ∧
  (∀ (tag form : Byte) (s : State), s.handlerFree →
      let entries : ReplyData := .entries s.queue.length (s.queue.countP fun e => e.cls == .auto) s.queue
        (s.flight.map fun f => ⟨f.zone, f.cls, f.kind, f.phase, f.attempt⟩)
        (!(s.line 5).cfg.general && !(s.line 5).taken) (s.link.supervision == .lapsedFreeze) s.clock.audio
      let schedule : ReplyData := .schedule
        (((List.range 48).filter fun z => (s.zone z).cfg.active && (s.zone z).cfg.tracking).map fun z =>
          (z, ((s.dueAt z).getD 0 - s.clock.now) / 48000, if s.zoneDue z then s.blocked z else none))
      let a : Answer := if form = 0#8 then ⟨.ok, [], entries⟩ else if form = 1#8 then ⟨.ok, [], schedule⟩
        else ⟨.badValue, [], .none⟩
      exec (.queueGetEntries tag [form]) s = .next (s.answered ⟨0x1E#8, tag, [form]⟩ a) ∧
      exec (.queueGetSchedule tag [form]) s = .next (s.answered ⟨0x1E#8, tag, [form]⟩ a))

/-- ZONE_GET refuses a number above 47 with BAD_VALUE and otherwise reports the zone's configuration, host and effective
mute, level, dependants, target, status, running delay and transition. It changes nothing (R17).
EQ_GET refuses a number above 47 with BAD_VALUE and otherwise reports the host bands, the latest shelf with its
inputs, the crossfade in progress, the pending and the current shelf. It changes nothing (R173). -/
def Obligations.ZonesAndEqualisersAreReported : Prop :=
  (∀ (tag z : Byte) (s : State), s.handlerFree →
      exec (.zoneGet tag [z]) s = .next (s.answered ⟨0x09#8, tag, [z]⟩
        (if z.toNat < 48 then ⟨.ok, [], .zone
          { cfg := (s.zone z.toNat).cfg, hostMute := (s.zone z.toNat).hostMute,
            effMute := (s.zone z.toNat).cfg.active &&
              ((s.zone z.toNat).hostMute || (!(s.line 0).cfg.general && !(s.line 0).taken)),
            level := if (s.zone z.toNat).cfg.active then s.levelFrom 48 z.toNat else 0,
            dependants := (List.range 48).filter fun d => (s.zone d).cfg.active && (s.zone d).cfg.lead == some z.toNat,
            target := (s.zone z.toNat).target, status := (s.zone z.toNat).status,
            running := (s.zone z.toNat).running, transition := (s.zone z.toNat).transition }⟩
         else ⟨.badValue, [], .none⟩))) ∧
  (∀ (tag z : Byte) (s : State), s.handlerFree →
      exec (.eqGet tag [z]) s = .next (s.answered ⟨0x19#8, tag, [z]⟩
        (if z.toNat < 48 then ⟨.ok, [], .eq
          { bands := (s.zone z.toNat).eq.bands, latestShelf := (s.zone z.toNat).eq.latest.shelf,
            mic := (s.zone z.toNat).cfg.mic,
            dist := (s.zone z.toNat).cfg.mic.bind fun m => (s.path z.toNat m).map fun p => p.dist,
            humidity := (s.zone z.toNat).cfg.mic.map fun m => s.pathHum z.toNat m,
            alpha := (s.zone z.toNat).cfg.mic.map fun m => absorption (s.pathHum z.toNat m),
            airComp := (s.zone z.toNat).cfg.airComp,
            blending := (s.zone z.toNat).eq.xfade.map fun x => (x.elapsed, x.origin.shelf, x.dest.shelf),
            pendingShelf := (s.zone z.toNat).eq.pendingSet.map fun p => p.shelf,
            currentShelf := (s.zone z.toNat).eq.current.shelf }⟩
         else ⟨.badValue, [], .none⟩)))

/-- PATH_GET in one-path form refuses a number out of range with BAD_VALUE and a pair with no path with NOT_FOUND, and
otherwise reports the path's position and record, its path temperature, the speed of sound, and the predicted and
effective times of flight. It changes nothing (R34).
PATH_GET in listing form refuses a selector or a start position out of range with BAD_VALUE, and otherwise reports the
number of matching paths and, from the start position on, the first 48 of them in table order. It changes nothing
(R35). -/
def Obligations.PathsAreReported : Prop :=
  (∀ (tag z m : Byte) (s : State), s.handlerFree →
      exec (.pathGetOne tag [z, m]) s = .next (s.answered ⟨0x0E#8, tag, [z, m]⟩
        (if z.toNat < 48 ∧ m.toNat < 16 then
          match s.paths.find? fun p => p.zone == z.toNat && p.mic == m.toNat with
          | none => ⟨.notFound, [], .none⟩
          | some p => ⟨.ok, [], .pathOne
            { position := s.paths.findIdx fun q => q.zone == z.toNat && q.mic == m.toNat, path := p,
              temp := s.pathTemp z.toNat m.toNat, speed := speedOfSound (s.pathTemp z.toNat m.toNat),
              pred := predicted p.dist (s.pathTemp z.toNat m.toNat),
              eff := (predicted p.dist (s.pathTemp z.toNat m.toNat) : Int) + p.correction }⟩
         else ⟨.badValue, [], .none⟩))) ∧
  (∀ (tag z m from_ : Byte) (s : State), s.handlerFree →
      exec (.pathGetListing tag [z, m, from_]) s = .next (s.answered ⟨0x0E#8, tag, [z, m, from_]⟩
        (if (z.toNat < 48 ∨ z = 0xFF#8) ∧ (m.toNat < 16 ∨ m = 0xFF#8) ∧ from_.toNat ≤ 191 then
          let match_ := fun p : Path => (z == 0xFF#8 || p.zone == z.toNat) && (m == 0xFF#8 || p.mic == m.toNat)
          ⟨.ok, [], .pathListing (s.paths.countP match_)
            ((((s.paths.zipIdx.filter fun x => match_ x.1).filter fun x => decide (from_.toNat ≤ x.2)).take 48).map
              fun x => ⟨x.2, x.1.zone, x.1.mic, x.1.origin, x.1.tracker⟩)⟩
         else ⟨.badValue, [], .none⟩)))

/-- MIC_GET refuses a number above 15 with BAD_VALUE and otherwise reports the configuration, the state and latched
causes, the ambient level and the counters, the number of paths that name the microphone, and its standing in the
measurement in flight. It changes nothing (R160).
SENSOR_GET refuses a number above 7 with BAD_VALUE and otherwise reports the record, the age of the last good read in
whole seconds, the time to the next due time, and whether a poll of the sensor occupies the bus and is in its retry. It
changes nothing (R47). The milliseconds to the due time are truncated (log entry 30).
REGION_GET refuses a number above 7 with BAD_VALUE and otherwise reports the state, the published values, held-since
and the time to the hold expiry, the sensor mean, and the sensors of the region in ascending order with their states. It
changes nothing (R55). The seconds are truncated (log entry 30). -/
def Obligations.MicrophonesAndClimateAreReported : Prop :=
  (∀ (tag m : Byte) (s : State), s.handlerFree →
      exec (.micGet tag [m]) s = .next (s.answered ⟨0x11#8, tag, [m]⟩
        (if m.toNat < 16 then ⟨.ok, [], .mic
          { cfg := (s.mic m.toNat).cfg,
            state := if (s.mic m.toNat).cfg.inUse then (if (s.mic m.toNat).down then .down else .up) else .unused,
            latched := (s.mic m.toNat).latched, ambient := (s.mic m.toNat).ambient, silentMs := (s.mic m.toNat).silentMs,
            clip := (s.mic m.toNat).clip, ident := (s.mic m.toNat).ident, deaf := (s.mic m.toNat).deaf,
            paths := s.paths.countP fun p => p.mic == m.toNat,
            standing := s.flight.bind fun f => (f.listen.find? fun l => l.mic == m.toNat).map fun l => l.standing }⟩
         else ⟨.badValue, [], .none⟩))) ∧
  (∀ (tag n : Byte) (s : State), s.handlerFree →
      exec (.sensorGet tag [n]) s = .next (s.answered ⟨0x15#8, tag, [n]⟩
        (if n.toNat < 8 then ⟨.ok, [], .sensor
          { sensor := s.sensor n.toNat,
            ageSeconds := (s.sensor n.toNat).reading.map fun r => (s.clock.now - r.time) / 48000,
            dueMs := if (s.sensor n.toNat).cfg.enabled then (s.sensor n.toNat).due.map fun t => (t - s.clock.now) / 48
              else none,
            pollRetry := s.bus.poll.bind fun p => if p.sensor = n.toNat then some p.retry else none }⟩
         else ⟨.badValue, [], .none⟩))) ∧
  (∀ (tag r : Byte) (s : State), s.handlerFree →
      exec (.regionGet tag [r]) s = .next (s.answered ⟨0x17#8, tag, [r]⟩
        (if r.toNat < 8 then
          let since := match (s.region r.toNat).state with | .held t => some t | _ => none
          ⟨.ok, [], .region
            { state := (s.region r.toNat).state, temp := (s.region r.toNat).temp, hum := (s.region r.toNat).hum,
              heldSinceSeconds := since.map fun t => t / 48000,
              holdRemaining := since.map fun t => (t + s.globals.hold * 48000 - s.clock.now) / 48000,
              mean := sensorMean (s.sensors.toList.filter fun x => x.state == .fresh && x.cfg.region == r.toNat),
              sensors := ((List.range 8).filter fun n => (s.sensor n).cfg.region == r.toNat).map
                fun n => (n, (s.sensor n).state) }⟩
         else ⟨.badValue, [], .none⟩)))

/-! ### Zones -/

/-- Each numeric field of a ZONE_SET outside its range of Figure 1-1 is replaced by the nearer limit, and the reply is
CLAMPED with the identifiers of the clamped fields in record order, or OK where none was (R10). -/
def Obligations.ZoneFieldsAreClamped : Prop :=
  ∀ b : List Byte,
    let c := (zoneSetCfg b).1
    c.base = min 768000 (u32At b 7) ∧ c.trim = max (-7680) (min 7680 (s16At b 11)) ∧ c.prec = min 23040 (u16At b 13) ∧
    c.outLat = min 76800 (u32At b 15) ∧ c.airComp = min 100 (byteAt b 19) ∧
    c.interval = max 10 (min 3600 (u16At b 21)) ∧ c.gate = max 16 (min 4800 (u16At b 23)) ∧
    c.slew = max 1 (min 160 (byteAt b 25)) ∧ c.xthr = max 48 (min 4800 (u16At b 26)) ∧
    (accepted (zoneSetCfg b).2 .none).status = (if (zoneSetCfg b).2 = [] then .ok else .clamped) ∧
    (zoneSetCfg b).2.map (fun x => (x.place, x.ident)) =
      ([(c.base != u32At b 7, 6), (c.trim != s16At b 11, 7), (c.prec != u16At b 13, 8), (c.outLat != u32At b 15, 9),
        (c.airComp != byteAt b 19, 10), (c.interval != u16At b 21, 12), (c.gate != u16At b 23, 13),
        (c.slew != byteAt b 25, 14), (c.xthr != u16At b 26, 15)].filter fun x => x.1).map fun x => (none, x.2)

/-- A ZONE_SET that a step of Figure 1-3 refuses gives the reply of the first such step and changes nothing; the chain
checks are those of R7 (R9). -/
def Obligations.ZoneSetRefusals : Prop :=
  ∀ (tag : Byte) (b : List Byte) (s : State), s.handlerFree → b.length = 28 →
    let z := byteAt b 0
    let c := (zoneSetCfg b).1
    let no := fun st : Status => exec (.zoneSet tag b) s = .next (s.answered ⟨0x08#8, tag, b⟩ ⟨st, [], .none⟩)
    let step4 := (∀ f, c.feed = some f → f < 32) ∧ (∀ l, c.lead = some l → l < 48) ∧ (∀ m, c.mic = some m → m < 16) ∧
      c.region < 8 ∧ byteAt b 20 < 2
    (48 ≤ z → no .badValue) ∧
    (z < 48 → 2 ≤ byteAt b 1 → no .badValue) ∧
    (z < 48 → byteAt b 1 = 0 → (s.zone z).cfg.active = true →
      (∃ d, d < 48 ∧ (s.zone d).cfg.active = true ∧ (s.zone d).cfg.lead = some z) → no .conflict) ∧
    (z < 48 → byteAt b 1 = 1 → ¬ step4 → no .badValue) ∧
    (∀ l, z < 48 → byteAt b 1 = 1 → step4 → c.lead = some l →
      s.walkMeets z 48 l = true ∨ (s.zone l).cfg.active = false ∨ c.mic = none ∨ 4 < s.level l + s.height z →
      no .conflict)

/-- A ZONE_SET with state UNUSED for a zone that is UNUSED is answered OK and changes nothing. One for an ACTIVE zone with
no dependants retires it: a flight of the zone is aborted with ABORTED_RECONFIG and its entries, a HOST entry with its
REMOVED notice, and its paths are removed, the record takes its start-up values, and its output fades out, or, where the
stage is CLOSED, the running delay and equaliser take their start-up values at once. The arbiter then considers the queue.
Every other zone and everything else is as it was. That a second retirement also drops the bands held for an awaited
activation is log entry 52 (R13, R89, R103, R106, R108, R126, R127, R171). -/
def Obligations.ZoneSetRetires : Prop :=
  ∀ (tag : Byte) (b : List Byte) (s : State), s.handlerFree → b.length = 28 → byteAt b 1 = 0 →
    let z := byteAt b 0
    let c : RxCommand := ⟨0x08#8, tag, b⟩
    z < 48 →
    ((s.zone z).cfg.active = false → exec (.zoneSet tag b) s = .next (s.answered c ⟨.ok, [], .none⟩)) ∧
    ((s.zone z).cfg.active = true → (∀ d, d < 48 → (s.zone d).cfg.active = true → (s.zone d).cfg.lead ≠ some z) →
      ∃ t, exec (.zoneSet tag b) s = .next t ∧ s.link.Answers t.link c ⟨.ok, [], .none⟩ ∧
        (t.zone z).cfg = ⟨false, none, none, none, 0, 0, 0, 0, 0, 0, false, 60, 240, 8, 480⟩ ∧
        (t.zone z).hostMute = false ∧ (t.zone z).target = 0 ∧ (t.zone z).status = .free ∧ (t.zone z).held = .free ∧
        (t.zone z).eq.bands = [] ∧ (t.zone z).eq.pendingSet = none ∧ t.dueAt z = none ∧
        ((s.zone z).stage = .closed → (t.zone z).stage = .closed ∧ (t.zone z).running = 0 ∧
          (t.zone z).transition = .steady ∧ (t.zone z).eq.current = ⟨[], 0⟩ ∧ (t.zone z).eq.xfade = none ∧
          (t.zone z).retiring = false) ∧
        ((s.zone z).stage ≠ .closed → (t.zone z).stage = .fadingOut ∧ (t.zone z).fade = (s.zone z).fade ∧
          (t.zone z).running = (s.zone z).running ∧ (t.zone z).retiring = true ∧
          (t.zone z).eq.current = (s.zone z).eq.current ∧ (t.zone z).eq.xfade = (s.zone z).eq.xfade ∧
          (t.zone z).transition =
            (if (s.zone z).transition = .glide then .steady else (s.zone z).transition)) ∧
        (∀ x, x ≠ z → t.zone x = s.zone x) ∧ t.paths = (s.paths.filter fun p => p.zone != z) ∧
        (∀ e ∈ t.queue, e.zone ≠ z) ∧
        (∀ f, s.flight = some f → f.zone = z → f.pendingOutcome = none → f.phase ≠ .quietWait →
          t.flight = some { f.discard with pendingOutcome := some .abortedReconfig, phase := .rampOut }) ∧
        t = { s with zones := t.zones, paths := t.paths, queue := t.queue, due := t.due, flight := t.flight,
                     link := t.link } ∧
        (let gone := ((s.taking c).abortWhere (fun x => x == z) false .abortedReconfig).removeEntries fun e => e.zone == z
         let u := { gone with zones := t.zones, paths := t.paths, due := tset gone.due z none }
         t = u.settleQueue.replied c ⟨.ok, [], .none⟩))

/-- A ZONE_SET that Figure 1-3 accepts activates an UNUSED zone: the record takes the fields, with host mute off and
no bands; the solver computes its target, or under a freeze holds it with HELD_FROZEN; outside a retirement fade-out
the running delay is set directly to the target, STEADY, the first set is applied at once, and the fade-in begins
unless the zone is effectively muted or the audio frame clock is absent; a tracked zone takes a due time. ZONE_STATUS
is raised where its status differs from FREE and for each zone below it whose status changed; then the arbiter
considers the queue. Zones that are not below it are as they were. That no bands are held for a zone that is still
retiring is log entry 52 (R11, R71, R73, R88, R98, R99, R170). -/
def Obligations.ZoneSetActivates : Prop :=
  ∀ (tag : Byte) (b : List Byte) (s : State), s.handlerFree → b.length = 28 → byteAt b 1 = 1 → zoneSetRanges b = true →
    let z := byteAt b 0
    let c := (zoneSetCfg b).1
    z < 48 → (∀ l, c.lead = some l → s.chainOk z l c.mic = true) → (s.zone z).cfg.active = false →
    ∃ t, exec (.zoneSet tag b) s = .next t ∧
      s.link.Answers t.link ⟨0x08#8, tag, b⟩ (accepted (zoneSetCfg b).2 .none) ∧
      (t.zone z).cfg = c ∧ (t.zone z).hostMute = false ∧ (t.zone z).eq.bands = [] ∧
      (s.frozen = false → t.Solved (s.zone z).target z) ∧
      (s.frozen = true → (t.zone z).target = (s.zone z).target ∧ (t.zone z).status = .heldFrozen ∧
        (t.zone z).held = .free) ∧
      ((s.zone z).retiring = true → (t.zone z).stage = (s.zone z).stage ∧ (t.zone z).running = (s.zone z).running) ∧
      ((s.zone z).retiring = false → (t.zone z).running = (t.zone z).target ∧ (t.zone z).transition = .steady ∧
        (t.zone z).eq.current = ⟨[], t.shelf z⟩ ∧ (t.zone z).eq.xfade = none ∧ (t.zone z).eq.pendingSet = none ∧
        ((s.zone z).stage = .closed →
          (t.zone z).stage = (if s.muteAll = true ∨ s.clock.audio = false then .closed else .fadingIn))) ∧
      (c.tracking = true → t.dueAt z = some (s.clock.now + c.interval * 48000)) ∧
      (∀ x, t.below (fun y => y == z) 48 x = false → t.zone x = s.zone x) ∧
      t = { s with zones := t.zones, queue := t.queue, due := t.due, flight := t.flight, link := t.link } ∧
      (let h := s.taking ⟨0x08#8, tag, b⟩
       let prev := fun x => if x = z then (if s.frozen then .heldFrozen else .free) else (s.zone x).status
       let u := { h with
         zones := t.zones, link := h.link.noted (t.statusNotices prev)
         due := if c.tracking then tset s.due z (some (s.clock.now + c.interval * 48000)) else s.due }
       t = u.settleQueue.replied ⟨0x08#8, tag, b⟩ (accepted (zoneSetCfg b).2 .none))

/-- A ZONE_SET that Figure 1-3 accepts for an ACTIVE zone reconfigures it: a flight of the zone is aborted with
ABORTED_RECONFIG and its waiting entry is removed, a HOST entry with its REMOVED notice; the record takes the fields,
with host mute, paths and bands kept; the targets of the zone and of every ACTIVE zone below it are computed afresh,
or under a freeze held with the held status, and a changed target reaches its delay line; the zone forms and takes a
new set where its shelf gain changed, outside a retirement fade-out; a due time goes with tracking disabled and starts
anew where tracking is newly enabled. ZONE_STATUS follows for each zone whose status changed, and then the arbiter and
the scheduler consider the queue. Zones that are not below it are as they were. The due time after an abort in the
quiet wait is that of the old interval (log entry 19) (R12, R68, R71, R73, R79, R86, R99, R106, R108, R126, R127,
R166). -/
def Obligations.ZoneSetReconfigures : Prop :=
  ∀ (tag : Byte) (b : List Byte) (s : State), s.handlerFree → b.length = 28 → byteAt b 1 = 1 → zoneSetRanges b = true →
    let z := byteAt b 0
    let c := (zoneSetCfg b).1
    z < 48 → (∀ l, c.lead = some l → s.chainOk z l c.mic = true) → (s.zone z).cfg.active = true →
    ∃ t, exec (.zoneSet tag b) s = .next t ∧
      s.link.Answers t.link ⟨0x08#8, tag, b⟩ (accepted (zoneSetCfg b).2 .none) ∧
      (t.zone z).cfg = c ∧ (t.zone z).hostMute = (s.zone z).hostMute ∧ (t.zone z).eq.bands = (s.zone z).eq.bands ∧
      (t.zone z).stage = (s.zone z).stage ∧
      (s.frozen = false → t.Solved (s.zone z).target z) ∧
      (s.frozen = true → (t.zone z).target = (s.zone z).target ∧ (t.zone z).status = (s.zone z).status ∧
        (t.zone z).held = (s.zone z).held) ∧
      (∀ e ∈ t.queue, e.zone = z → e.cls = .auto) ∧
      (∀ f, s.flight = some f → f.zone = z → f.pendingOutcome = none → f.phase ≠ .quietWait →
        t.flight = some { f.discard with pendingOutcome := some .abortedReconfig, phase := .rampOut }) ∧
      (c.tracking = false → t.dueAt z = none) ∧
      (c.tracking = true → (s.zone z).cfg.tracking = false → t.dueAt z = some (s.clock.now + c.interval * 48000)) ∧
      (let table := fun d => if d = z then c else (s.zone d).cfg
       s.frozen = false → chainLaw table → ∀ d, d < 48 → (table d).active = true →
         t.below (fun y => y == z) 48 d = true → t.Solved (s.zone d).target d) ∧
      (let reached := fun (d : Nat) (x : Zone) =>
         let a := { x with target := (t.zone d).target, status := (t.zone d).status, missing := (t.zone d).missing }
         if a.target = (s.zone d).target then a else a.takeTarget a.target
       let x := { s.zone z with cfg := c }
       t.zone z = reached z (if x.retiring = true ∨ x.eq.latest = ⟨x.eq.bands, t.shelf z⟩ then x
         else x.takeSet ⟨x.eq.bands, t.shelf z⟩) ∧
       ∀ d, d ≠ z → t.zone d = reached d (s.zone d)) ∧
      (∀ x, x ≠ z → t.below (fun y => y == z) 48 x = false → t.zone x = s.zone x) ∧
      t = { s with zones := t.zones, queue := t.queue, due := t.due, flight := t.flight, link := t.link } ∧
      (let gone := ((s.taking ⟨0x08#8, tag, b⟩).abortWhere (fun x => x == z) false .abortedReconfig).removeEntries
         fun e => e.zone == z
       let u := { gone with
         zones := t.zones, link := gone.link.noted (t.statusNotices fun x => (s.zone x).status)
         due := if !c.tracking then tset gone.due z none
           else if (s.zone z).cfg.tracking then gone.due
           else tset gone.due z (some (s.clock.now + c.interval * 48000)) }
       t = u.settleQueue.replied ⟨0x08#8, tag, b⟩ (accepted (zoneSetCfg b).2 .none))

/-- ZONE_MUTE refuses a zone number above 47 or another value with BAD_VALUE and an UNUSED zone with NOT_FOUND. For an
ACTIVE zone the host mute takes the value. Where the zone becomes effectively muted an OPEN or FADING_IN stage turns to
FADING_OUT, a flight of the zone is aborted with ABORTED_MUTE and its waiting entry removed, a HOST entry with its REMOVED
notice, LOOP_INT excepted; where it ceases to be, a CLOSED or FADING_OUT stage turns to FADING_IN while the audio frame
clock is present; otherwise no zone changes further. The arbiter and the scheduler then consider the queue. A stage in a
retirement fade-out does not turn (log entry 28) (R14, R16, R85, R99, R103, R105, R108, R125, R126, R127). -/
def Obligations.ZoneMuteSetsHostMute : Prop :=
  ∀ (tag z v : Byte) (s : State), s.handlerFree →
    let c : RxCommand := ⟨0x0A#8, tag, [z, v]⟩
    let n := z.toNat
    (48 ≤ n ∨ 2 ≤ v.toNat → exec (.zoneMute tag [z, v]) s = .next (s.answered c ⟨.badValue, [], .none⟩)) ∧
    (n < 48 → v.toNat < 2 → (s.zone n).cfg.active = false →
      exec (.zoneMute tag [z, v]) s = .next (s.answered c ⟨.notFound, [], .none⟩)) ∧
    (n < 48 → v.toNat < 2 → (s.zone n).cfg.active = true →
      ∃ t, exec (.zoneMute tag [z, v]) s = .next t ∧ s.link.Answers t.link c ⟨.ok, [], .none⟩ ∧
        (∀ x, x ≠ n → t.zone x = s.zone x) ∧
        t.zone n = { s.zone n with hostMute := v == 1#8, stage := (t.zone n).stage } ∧
        (t.zone n).stage =
          (if (s.zone n).retiring then (s.zone n).stage
           else if v = 1#8 ∧ (s.zone n).hostMute = false ∧ s.muteAll = false then
            (if (s.zone n).stage = .opened ∨ (s.zone n).stage = .fadingIn then .fadingOut else (s.zone n).stage)
           else if v = 0#8 ∧ (s.zone n).hostMute = true ∧ s.muteAll = false ∧ s.clock.audio = true then
            (if (s.zone n).stage = .closed ∨ (s.zone n).stage = .fadingOut then .fadingIn else (s.zone n).stage)
           else (s.zone n).stage) ∧
        (v = 1#8 → (s.zone n).hostMute = false → s.muteAll = false →
          (∀ e ∈ t.queue, e.zone = n → e.kind = .loopInt) ∧
          ∀ f, s.flight = some f → f.zone = n → f.kind ≠ .loopInt → f.pendingOutcome = none → f.phase ≠ .quietWait →
            t.flight = some { f.discard with pendingOutcome := some .abortedMute, phase := .rampOut }) ∧
        t = { s with zones := t.zones, queue := t.queue, due := t.due, flight := t.flight, link := t.link } ∧
        (let h : State := { s.taking c with zones := t.zones }
         let u := if v = 1#8 ∧ (s.zone n).hostMute = false ∧ s.muteAll = false then
             (h.abortWhere (fun x => x == n) true .abortedMute).removeEntries fun e => e.zone == n && e.kind != .loopInt
           else h
         t = u.settleQueue.replied c ⟨.ok, [], .none⟩))

/-! ### Targets and delay lines -/

/-- A recomputation computes each selected ACTIVE zone, and each ACTIVE zone below one, under R64 to R67 from the state it
leaves, a dependant from its lead's new target; it leaves every other zone as it was, hands each changed target to its
delay line, and raises ZONE_STATUS for each zone whose status changed, in ascending order. In LAPSED_FREEZE it does
nothing (R68, R69, R71, R72). -/
def Obligations.RecomputationFollowsTheChains : Prop :=
  ∀ (s : State) (sel : Nat → Bool),
    (s.frozen = true → s.recompute sel = s) ∧
    (s.frozen = false → chainLaw (fun z => (s.zone z).cfg) →
      (∀ z, z < 48 → (s.zone z).cfg.active = true → s.below sel 48 z = true →
        (s.recompute sel).Solved (s.zone z).target z ∧
        (s.recompute sel).zone z =
          (let zn := { s.zone z with target := ((s.recompute sel).zone z).target,
                                     status := ((s.recompute sel).zone z).status,
                                     missing := ((s.recompute sel).zone z).missing }
           if zn.target = (s.zone z).target then zn else zn.takeTarget zn.target)) ∧
      (∀ z, (s.zone z).cfg.active = false ∨ s.below sel 48 z = false → (s.recompute sel).zone z = s.zone z) ∧
      s.recompute sel = { s with
        zones := (s.recompute sel).zones
        link := (s.raiseAll (((List.range 48).filter fun z =>
          (s.zone z).cfg.active && (s.zone z).status != ((s.recompute sel).zone z).status).map fun z =>
            .zoneStatus z (s.zone z).status ((s.recompute sel).zone z).status ((s.recompute sel).zone z).target
              (if ((s.recompute sel).zone z).status = .noPath then some ((s.recompute sel).zone z).missing
               else none))).link })

/-- A target change that reaches a zone in STEADY or GLIDE whose mute stage is not CLOSED is evaluated against the running
delay: no difference gives STEADY, one of at most the crossfade threshold times 16 a glide, a larger one a crossfade from
the running delay to the new target. In XFADE it waits; while the stage is CLOSED the running delay takes it at once; a
retiring zone does not take it (R79, R81, R84, R86, R89). -/
def Obligations.TargetChangeIsEvaluated : Prop :=
  ∀ (z : Zone) (t : Nat),
    let d := (t : Int) - z.running
    (z.retiring = true → z.takeTarget t = z) ∧
    (z.retiring = false → z.stage = .closed → z.takeTarget t = { z with running := t, transition := .steady }) ∧
    (z.retiring = false → z.stage ≠ .closed → z.transition = .steady ∨ z.transition = .glide →
      (d = 0 → z.takeTarget t = { z with transition := .steady }) ∧
      (d ≠ 0 → d.natAbs ≤ z.cfg.xthr * 16 → z.takeTarget t = { z with transition := .glide }) ∧
      (z.cfg.xthr * 16 < d.natAbs → z.takeTarget t = { z with transition := .xfade z.running t 0 })) ∧
    (∀ o e k, z.retiring = false → z.stage ≠ .closed → z.transition = .xfade o e k → z.takeTarget t = z)

/-! ### Paths -/

/-- A PATH_SET that a step of R25 refuses gives the reply of the first such step and changes nothing. An accepted one
writes the distance, at most 400,000, with origin ENTERED and the tracker fields at their starting values: in the place
of the pair's record, or at the end of the table. Every zone that draws a term from the path, and every zone below one,
is solved from the table it leaves, with ZONE_STATUS for each whose status changed; the set of the path's zone is formed
from it; no other zone's target, delay or set changes, and a flight goes on. The arbiter and the scheduler then consider
the queue (R24, R25, R26, R27, R71, R99, R166). -/
def Obligations.PathSetEntersThePath : Prop :=
  ∀ (tag : Byte) (b : List Byte) (s : State), s.handlerFree → b.length = 6 →
    let z := byteAt b 0
    let m := byteAt b 1
    let c : RxCommand := ⟨0x0C#8, tag, b⟩
    let no := fun st : Status => exec (.pathSet tag b) s = .next (s.answered c ⟨st, [], .none⟩)
    let held := s.paths.any fun p => p.zone == z && p.mic == m
    let draws := fun d => (s.zone d).cfg.mic == some m && (s.zone d).cfg.lead.isSome &&
      (d == z || (s.zone d).cfg.lead == some z)
    let new : Path := { zone := z, mic := m, dist := min 400000 (u32At b 2), origin := .entered, correction := 0,
                        tracker := .acquire, goodRun := 0, missRun := 0, limit := false, last := none }
    (48 ≤ z ∨ 16 ≤ m → no .badValue) ∧
    (z < 48 → m < 16 → (s.zone z).cfg.active = false ∨ (s.mic m).cfg.inUse = false → no .notFound) ∧
    (z < 48 → m < 16 → (s.zone z).cfg.active = true → (s.mic m).cfg.inUse = true →
      (held = false → 192 ≤ s.paths.length → no .tableFull) ∧
      (held = true ∨ s.paths.length < 192 →
        ∃ t, exec (.pathSet tag b) s = .next t ∧
          s.link.Answers t.link c
            ⟨if u32At b 2 ≤ 400000 then .ok else .clamped, if u32At b 2 ≤ 400000 then [] else [⟨none, 1⟩],
             .pathSet (s.paths.findIdx fun p => p.zone == z && p.mic == m) (!held)⟩ ∧
          (held = true → t.paths = s.paths.map fun p => if p.zone = z ∧ p.mic = m then new else p) ∧
          (held = false → t.paths = s.paths ++ [new]) ∧
          s.ZonesMoved t ∧
          (s.frozen = false → chainLaw (fun d => (s.zone d).cfg) → ∀ d, d < 48 → (s.zone d).cfg.active = true →
            s.below draws 48 d = true → t.Solved (s.zone d).target d) ∧
          (∀ d, s.below draws 48 d = false ∨ s.frozen = true → t.stored d = s.stored d ∧
            (t.zone d).running = (s.zone d).running ∧ (t.zone d).transition = (s.zone d).transition) ∧
          ((s.zone z).cfg.mic = some m → (s.zone z).retiring = false →
            (t.zone z).eq.latest = ⟨(s.zone z).eq.bands, t.shelf z⟩) ∧
          (∀ d, d ≠ z → (t.zone d).eq = (s.zone d).eq) ∧
          (∀ f, s.flight = some f → t.flight = some f) ∧
          t = { s with zones := t.zones, paths := t.paths, queue := t.queue, due := t.due, flight := t.flight,
                       link := t.link } ∧
          (let u := { s.taking c with
             zones := t.zones, paths := t.paths
             link := (s.taking c).link.noted (t.statusNotices fun d => (s.zone d).status) }
           t = u.settleQueue.replied c
             ⟨if u32At b 2 ≤ 400000 then .ok else .clamped, if u32At b 2 ≤ 400000 then [] else [⟨none, 1⟩],
              .pathSet (s.paths.findIdx fun p => p.zone == z && p.mic == m) (!held)⟩)))

/-- PATH_DROP refuses a selector out of range with BAD_VALUE, and two numbers that name no path with NOT_FOUND. Otherwise
it removes every path that matches both selectors, the others closing up in order, and reports their count. Every zone
whose own or lead term was removed, and every zone below one, is solved from the table it leaves, with ZONE_STATUS for each
whose status changed, and the sets of the zones whose shelf path was removed are formed from it (R20, R24, R31, R71). -/
def Obligations.PathDropRemoves : Prop :=
  ∀ (tag zb mb : Byte) (s : State), s.handlerFree →
    let c : RxCommand := ⟨0x0D#8, tag, [zb, mb]⟩
    let gone := fun p : Path => (zb == 0xFF#8 || p.zone == zb.toNat) && (mb == 0xFF#8 || p.mic == mb.toNat)
    let inRange := (zb.toNat < 48 ∨ zb = 0xFF#8) ∧ (mb.toNat < 16 ∨ mb = 0xFF#8)
    let draws := fun d => (s.zone d).cfg.lead.any fun l => (s.zone d).cfg.mic.any fun m =>
      s.paths.any fun p => gone p && p.mic == m && (p.zone == d || p.zone == l)
    let shelves := fun d => (s.zone d).cfg.mic.any fun m => s.paths.any fun p => gone p && p.mic == m && p.zone == d
    (¬ inRange → exec (.pathDrop tag [zb, mb]) s = .next (s.answered c ⟨.badValue, [], .none⟩)) ∧
    (inRange → zb ≠ 0xFF#8 → mb ≠ 0xFF#8 → s.paths.any gone = false →
      exec (.pathDrop tag [zb, mb]) s = .next (s.answered c ⟨.notFound, [], .none⟩)) ∧
    (inRange → zb = 0xFF#8 ∨ mb = 0xFF#8 ∨ s.paths.any gone = true →
      ∃ t, exec (.pathDrop tag [zb, mb]) s = .next t ∧
        s.link.Answers t.link c ⟨.ok, [], .pathDrop (s.paths.countP gone)⟩ ∧
        t.paths = (s.paths.filter fun p => !gone p) ∧ s.ZonesMoved t ∧
        (s.frozen = false → chainLaw (fun d => (s.zone d).cfg) → ∀ d, d < 48 → (s.zone d).cfg.active = true →
          s.below draws 48 d = true → t.Solved (s.zone d).target d) ∧
        (∀ d, s.below draws 48 d = false ∨ s.frozen = true → t.stored d = s.stored d ∧
          (t.zone d).running = (s.zone d).running ∧ (t.zone d).transition = (s.zone d).transition) ∧
        (∀ d, d < 48 → shelves d = true → (s.zone d).cfg.active = true → (s.zone d).retiring = false →
          (t.zone d).eq.latest = ⟨(s.zone d).eq.bands, 0⟩) ∧
        (∀ d, shelves d = false → (t.zone d).eq = (s.zone d).eq) ∧
        (∀ f, s.flight = some f → t.flight = some f) ∧
        t = { s with zones := t.zones, paths := t.paths, queue := t.queue, due := t.due, flight := t.flight,
                     link := t.link } ∧
        (let u := { s.taking c with
           zones := t.zones, paths := t.paths
           link := (s.taking c).link.noted (t.statusNotices fun d => (s.zone d).status) }
         t = u.settleQueue.replied c ⟨.ok, [], .pathDrop (s.paths.countP gone)⟩))

/-! ### Microphones -/

/-- A MIC_SET that a step of R159 refuses changes nothing. An accepted one writes the configuration with the input
latency limited to 76,800, and has the four effects of R159 by the use before and after; its reply carries the use
field as written (that of an UNUSED one is log entry 58): a microphone taken into use starts UP with empty causes and
counters; one kept in use keeps its state and causes, and with a new input slot loses its history and its signal
counters; a newly disabled condition loses its counter; one made UNUSED loses its paths, causes and counters, and a
quiet wait, lead-in or capture that hears it drops it. ZONE_STATUS follows for each zone whose status changed, and
then the arbiter and the scheduler consider the queue. Every zone that listens to it and draws a term that a new
region or a removed path touches, and every zone below one, is solved, and the sets such a zone's shelf needs are
formed; the others keep targets, delays and sets. The MEASURE_DONE of a quiet wait that hears no other microphone
comes before ZONE_STATUS (log entry 54) (R24, R32, R68, R71, R116, R159, R166). A body is 8 or 9 bytes long as log
entry 15 says; that a flight keeps in mind which microphones were made UNUSED serves R155 (log entry 50). -/
def Obligations.MicSetConfigures : Prop :=
  ∀ (tag : Byte) (b : List Byte) (s : State), s.handlerFree → b.length = (if Config.micSetLong then 9 else 8) →
    let x := if Config.micSetLong then b else b.take 6 ++ [0#8] ++ b.drop 6
    let m := byteAt x 0
    let c : RxCommand := ⟨0x10#8, tag, b⟩
    let cfg : MicCfg := ⟨byteAt x 1 == 1, byteAt x 2, min 76800 (u32At x 3), byteAt x 7, conditionBits (x.getD 8 0#8)⟩
    let old := s.mic m
    let kept := fun (on : Bool) (n : Nat) => if on then n else 0
    let listens := fun d => (s.zone d).cfg.mic == some m
    let pathTo := fun d => s.paths.any fun p => p.mic == m && p.zone == d
    let leaves := old.cfg.inUse && !cfg.inUse
    let moves := old.cfg.inUse && cfg.inUse && old.cfg.region != cfg.region
    let draws := fun d => listens d && (s.zone d).cfg.lead.any fun l => moves || (leaves && (pathTo d || pathTo l))
    let shelves := fun d => listens d && (moves || (leaves && pathTo d))
    (16 ≤ m ∨ 2 ≤ byteAt x 1 ∨ 32 ≤ byteAt x 2 ∨ 8 ≤ byteAt x 7 →
      exec (.micSet tag b) s = .next (s.answered c ⟨.badValue, [], .none⟩)) ∧
    (m < 16 → byteAt x 1 < 2 → byteAt x 2 < 32 → byteAt x 7 < 8 →
      ∃ t, exec (.micSet tag b) s = .next t ∧
        s.link.Answers t.link c ⟨if u32At x 3 ≤ 76800 then .ok else .clamped,
          if u32At x 3 ≤ 76800 then [] else [⟨none, 3⟩], .micSet cfg.inUse⟩ ∧
        t.mic m =
          (if old.cfg.inUse = true ∧ cfg.inUse = true then
            let held := if old.cfg.slot = cfg.slot then old
              else { old with history := [], silentMs := 0, clip := 0, ident := 0, windowPos := 0 }
            { held with cfg := cfg, silentMs := kept cfg.enables.silent held.silentMs,
                        clip := kept cfg.enables.overload held.clip, ident := kept cfg.enables.stuck held.ident,
                        deaf := kept cfg.enables.deaf held.deaf }
           else if old.cfg.inUse = false ∧ cfg.inUse = false then { old with cfg := cfg }
           else ⟨cfg, false, ⟨false, false, false, false⟩, -1200, 0, 0, 0, 0, [], 0⟩) ∧
        (∀ k, k ≠ m → t.mic k = s.mic k) ∧
        t.paths = (if old.cfg.inUse = true ∧ cfg.inUse = false then s.paths.filter fun p => p.mic != m else s.paths) ∧
        s.ZonesMoved t ∧
        (s.frozen = false → chainLaw (fun d => (s.zone d).cfg) → ∀ d, d < 48 → (s.zone d).cfg.active = true →
          s.below draws 48 d = true → t.Solved (s.zone d).target d) ∧
        (∀ d, s.below draws 48 d = false ∨ s.frozen = true → t.stored d = s.stored d ∧
          (t.zone d).running = (s.zone d).running ∧ (t.zone d).transition = (s.zone d).transition) ∧
        (∀ d, shelves d = false → (t.zone d).eq = (s.zone d).eq) ∧
        (∀ d, d < 48 → shelves d = true → (s.zone d).cfg.active = true → (s.zone d).retiring = false →
          (t.zone d).eq.latest = ⟨(s.zone d).eq.bands, t.shelf d⟩) ∧
        (∀ f, s.flight = some f → f.phase = .leadIn ∨ f.phase = .capture →
          t.flight = (if old.cfg.inUse = true ∧ cfg.inUse = false then
            some { f with listen := f.listen.map fun l =>
              if l.mic = m then
                (if l.standing = .heard then { l with standing := .dropped, acc := [], unused := true }
                 else { l with unused := true })
              else l }
            else some f)) ∧
        t = { s with zones := t.zones, paths := t.paths, mics := t.mics, queue := t.queue, due := t.due,
                     flight := t.flight, link := t.link } ∧
        (let h : State := { s.taking c with mics := t.mics }
         let marked : State := { h with flight := h.flight.map fun f => { f with listen := f.listen.map fun l =>
           if l.mic = m then { l with unused := true } else l } }
         let d := if old.cfg.inUse = true ∧ cfg.inUse = false then marked.dropMic m else h
         let u := { d with
           zones := t.zones, paths := t.paths, link := d.link.noted (t.statusNotices fun y => (s.zone y).status) }
         t = u.settleQueue.replied c ⟨if u32At x 3 ≤ 76800 then .ok else .clamped,
           if u32At x 3 ≤ 76800 then [] else [⟨none, 3⟩], .micSet cfg.inUse⟩))

/-- MIC_RESTORE refuses a number above 15 with BAD_VALUE and an UNUSED microphone with NOT_FOUND. For a microphone in use
the reply is OK: its latched causes become empty, its silent time, clip count, identical run and DEAF run 0, and it is
UP; its ambient level, history and overload window are kept, and a measurement in flight does not take it back. The
scheduler then admits what may be admitted (R99, R158). -/
def Obligations.MicRestoreClearsCauses : Prop :=
  ∀ (tag mb : Byte) (s : State), s.handlerFree →
    let m := mb.toNat
    let c : RxCommand := ⟨0x12#8, tag, [mb]⟩
    (16 ≤ m → exec (.micRestore tag [mb]) s = .next (s.answered c ⟨.badValue, [], .none⟩)) ∧
    (m < 16 → (s.mic m).state = .unused → exec (.micRestore tag [mb]) s = .next (s.answered c ⟨.notFound, [], .none⟩)) ∧
    (m < 16 → (s.mic m).state ≠ .unused →
      ∃ t, exec (.micRestore tag [mb]) s = .next t ∧ s.link.Answers t.link c ⟨.ok, [], .none⟩ ∧
        (t.mic m).state = .up ∧
        t.mic m = { s.mic m with down := false, latched := ⟨false, false, false, false⟩, silentMs := 0, clip := 0,
                                 ident := 0, deaf := 0 } ∧
        (∀ k, k ≠ m → t.mic k = s.mic k) ∧ (∀ f, s.flight = some f → t.flight = some f) ∧
        s.link.outbox <+: t.link.outbox ∧
        t = { s with mics := t.mics, queue := t.queue, due := t.due, flight := t.flight, link := t.link } ∧
        (let u : State := { s.taking c with mics := t.mics }
         t = u.settleQueue.replied c ⟨.ok, [], .none⟩))

/-- The trips of a microphone in use: the counter of an enabled condition stands at its threshold (10,000 ms, 32,
4,800, 8), and in every microphone in use the enabled conditions that stand at their thresholds and are not latched
join the latched causes in the one event. A microphone that was UP becomes DOWN with one MIC_DOWN notice that names
them all, in ascending microphone order, and then a flight that heard it drops it, in its quiet wait, lead-in or
capture; a quiet wait that hears none any more ends with NO_MICS, its MEASURE_DONE after every MIC_DOWN (log entry
20). Only then do the arbiter and the scheduler consider the queue. One that was DOWN raises no notice. The signal
conditions need the audio frame clock. In any other state nothing changes (log entries 2, 3 and 33). At the end of an
overload window the clip count is 0 and a new window begins. At each audio frame a microphone in use takes the sample
of its slot into its history, its identical run and its clip count, full scale being that of log entry 12 (R114, R116,
R151, R152, R153, R154, R156, R157, R161). -/
def Obligations.MicrophonesTrip : Prop :=
  (∀ (m : Fin 16) (s : State),
    let x := s.mic m
    let trip := fun (i : Instr) (on : Bool) (y : Mic) =>
      ∃ t, exec i s = .next t ∧
        (on = false → t = s) ∧
        (on = true →
          let old := fun k => if k = m.val then y else s.mic k
          let causes : Nat → Conditions := fun k =>
            let o := old k
            if o.cfg.inUse = false then ⟨false, false, false, false⟩ else
              ⟨o.cfg.enables.silent && o.silentMs == 10000 && !o.latched.silent,
               o.cfg.enables.overload && o.clip == 32 && !o.latched.overload,
               o.cfg.enables.stuck && o.ident == 4800 && !o.latched.stuck,
               o.cfg.enables.deaf && o.deaf == 8 && !o.latched.deaf⟩
          let falls := fun k => !(old k).down && causes k != ⟨false, false, false, false⟩
          let fallen := (List.range 16).filter falls
          (∀ k, k < 16 → t.mic k = (if causes k = ⟨false, false, false, false⟩ then old k
            else { old k with down := true,
                              latched := ⟨(old k).latched.silent || (causes k).silent,
                                          (old k).latched.overload || (causes k).overload,
                                          (old k).latched.stuck || (causes k).stuck,
                                          (old k).latched.deaf || (causes k).deaf⟩ })) ∧
          (∀ f, s.flight = some f → f.phase = .leadIn ∨ f.phase = .capture → fallen ≠ [] →
            t.flight = some { f with listen := f.listen.map fun l =>
              if l.mic ∈ fallen ∧ l.standing = .heard then { l with standing := .dropped, acc := [] } else l }) ∧
          t = { s with mics := t.mics, queue := t.queue, due := t.due, flight := t.flight, link := t.link } ∧
          (let u : State := { s with
             mics := t.mics
             link := s.link.noted (fallen.map fun k =>
               .micDown k (causes k) (old k).ambient (old k).silentMs (old k).clip (old k).ident (old k).deaf
                 (s.paths.countP fun p => p.mic == k)
                 ((List.range 48).countP fun z => (s.zone z).cfg.active && (s.zone z).cfg.mic == some k)) }
           t = (fallen.foldl State.dropMic u).settleQueue.settleTx))
    let signal := fun sel : Conditions → Bool => x.cfg.inUse && sel x.cfg.enables && s.clock.audio
    trip (.silentTrip m) (signal fun e => e.silent) { x with silentMs := 10000 } ∧
    trip (.overloadTrip m) (signal fun e => e.overload) { x with clip := 32 } ∧
    trip (.stuckTrip m) (signal fun e => e.stuck) { x with ident := 4800 } ∧
    trip (.deafTrip m) (x.cfg.inUse && x.cfg.enables.deaf) { x with deaf := 8 } ∧
    (x.cfg.inUse = true → s.clock.audio = true → exec (.overloadWindowEnd m) s =
      .next (s.setMic m { x with clip := 0, windowPos := 0 }))) ∧
  (∀ (s : State) (m : Nat) (f : Flight), s.flight = some f →
    let ls := f.listen.map fun l =>
      if l.mic = m ∧ l.standing = .heard then { l with standing := .dropped, acc := [] } else l
    let heard := f.listen.any fun l => l.mic == m && l.standing == .heard
    (heard = false ∨ f.phase = .analyse ∨ f.phase = .rampOut → s.dropMic m = s) ∧
    (heard = true → f.phase = .leadIn ∨ f.phase = .capture → s.dropMic m = { s with flight := some { f with listen := ls } }) ∧
    (heard = true → f.phase = .quietWait → s.dropMic m =
      if ls.any (fun l => l.standing == .heard) then { s with flight := some { f with listen := ls } }
      else s.ended { f with listen := ls } .noMics)) ∧
  ∀ (s : State) (words : List Int) (m : Nat), m < 16 →
    let x := s.mic m
    let v := words.getD x.cfg.slot 0
    let full : Int := 2 ^ (Config.wordBits - 1)
    (x.cfg.inUse = false → (s.audioFrame words).mic m = x) ∧
    (x.cfg.inUse = true → (s.audioFrame words).mic m = { x with
      history := (v :: x.history).take 24000, windowPos := x.windowPos + 1
      ident := if x.cfg.enables.stuck = false then 0 else if x.history.head? = some v then min 4800 (x.ident + 1) else 1
      clip := if x.cfg.enables.overload = true ∧ (v = full - 1 ∨ v = -full) then min 32 (x.clip + 1) else x.clip })

/-! ### Sensors and their bus -/

/-- A SENSOR_SET with a number, address, region or enable out of range is refused BAD_VALUE, and one that enables a sensor
at an address another enabled sensor holds CONFLICT. One of the values already held is answered OK and changes nothing.
Otherwise the record takes the values: enabling and a new address clear the reading and the failures, make the sensor
STALE and due at once, as one never polled (log entry 26); disabling clears them and makes it OFF; else the reading stays.
A poll in progress of a sensor that was enabled is voided by disabling and by a new address. The regions a FRESH sensor
leaves and joins are re-evaluated, and a bus left free starts the next due poll. SENSOR_STATE, REGION_STATE and ZONE_STATUS
are raised in this order, each where its state changed (R36, R44, R45, R46, R49, R54, R71). -/
def Obligations.SensorSetConfigures : Prop :=
  ∀ (tag n addr r on : Byte) (s : State), s.handlerFree →
    let c : RxCommand := ⟨0x14#8, tag, [n, addr, r, on]⟩
    let k := n.toNat
    let cfg : SensorCfg := ⟨addr.toNat, r.toNat, on == 1#8⟩
    let old := s.sensor k
    let inRange := k < 8 ∧ 0x08 ≤ addr.toNat ∧ addr.toNat ≤ 0x77 ∧ r.toNat < 8 ∧ on.toNat < 2
    let taken := ∃ j, j < 8 ∧ j ≠ k ∧ (s.sensor j).cfg.enabled = true ∧ (s.sensor j).cfg.addr = addr.toNat
    let new : Sensor :=
      if on = 0#8 then (if old.cfg.enabled then ⟨cfg, .off, none, 0, none, none, none⟩ else { old with cfg := cfg })
      else if old.cfg.enabled = false ∨ old.cfg.addr ≠ addr.toNat then ⟨cfg, .stale, none, 0, none, some s.clock.now, none⟩
      else { old with cfg := cfg }
    let voids := old.cfg.enabled = true ∧ (on = 0#8 ∨ old.cfg.addr ≠ addr.toNat)
    let poll := match s.bus.poll with
      | none => none
      | some p => if voids ∧ p.sensor = k then
          (match p.phase with | .wait _ => none | _ => some { p with voided := true }) else some p
    let u := (s.setSensor k new).withBus { s.bus with poll := poll }
    (¬ inRange → exec (.sensorSet tag [n, addr, r, on]) s = .next (s.answered c ⟨.badValue, [], .none⟩)) ∧
    (inRange → on = 1#8 → taken → exec (.sensorSet tag [n, addr, r, on]) s = .next (s.answered c ⟨.conflict, [], .none⟩)) ∧
    (inRange → on = 0#8 ∨ ¬ taken →
      (old.cfg = cfg → exec (.sensorSet tag [n, addr, r, on]) s = .next (s.answered c ⟨.ok, [], .none⟩)) ∧
      (old.cfg ≠ cfg →
        ∃ t, exec (.sensorSet tag [n, addr, r, on]) s = .next t ∧
          t.sensors = u.startPoll.sensors ∧ t.bus = u.startPoll.bus ∧
          t.regions =
            (if old.state = .fresh then
              (if new.state = .fresh then
                (if old.cfg.region = r.toNat then s.regions
                 else ((u.reevaluate old.cfg.region).reevaluate r.toNat).regions)
               else (u.reevaluate old.cfg.region).regions)
             else s.regions) ∧
          s.link.Answers t.link c ⟨.ok, [], .none⟩ ∧
          (old.cfg.region < 8 → t.link = (s.link.noted
            ((if new.state = old.state then [] else
              [.sensorState k old.state new.state new.fails new.lastFail (new.reading.map fun x => x.temp)
                (new.reading.map fun x => x.hum) r.toNat]) ++
              s.regionChange t old.cfg.region ++ (if r.toNat = old.cfg.region then [] else s.regionChange t r.toNat) ++
              t.statusNotices fun d => (s.zone d).status)).answered c ⟨.ok, [], .none⟩) ∧
          s.FollowsRegions t ∧
          t = { s with zones := t.zones, sensors := t.sensors, bus := t.bus, regions := t.regions, link := t.link }))

/-- On a free bus the poll of the due sensor starts that comes first in cyclic order after the one whose poll started most
recently, at its bus address, and its next due time is the start time plus the poll interval; on an occupied bus, and with
no sensor due, nothing starts (R36).
The due time of an enabled sensor passes, and a free bus starts the next poll (R36). The command phase of a poll ends,
in which the controller has issued a start condition, the address byte with the address above a 0, the measure byte 0x5B
and a stop condition, and the conversion wait begins, or, of a voided poll, the poll ends and the next due one starts.
The conversion wait ends 50 ms after it began, in which the controller issued nothing, and the read phase begins (R37,
R45). The internal timebase is moved to the moment of the event where it stands before it (log entry 2); the controller's
signals are those of the phase that ended last (log entry 45), and the place of address and direction in the address byte
is the family's (log entry 53). Due is at or past the due time (log entry 34). -/
def Obligations.PollsStartAndGoThroughTheirPhases : Prop :=
  (∀ (s : State),
      let due := fun n => (s.sensor n).cfg.enabled = true ∧ ∃ t, (s.sensor n).due = some t ∧ t ≤ s.clock.now
      (s.bus.poll ≠ none → s.startPoll = s) ∧
      ((∀ n, n < 8 → ¬ due n) → s.startPoll = s) ∧
      (∀ k, k < 8 → s.bus.poll = none → due ((s.bus.last + 1 + k) % 8) →
        (∀ j, j < k → ¬ due ((s.bus.last + 1 + j) % 8)) →
        let n := (s.bus.last + 1 + k) % 8
        s.startPoll = { s with
          sensors := tset s.sensors n { s.sensor n with due := some (s.clock.now + s.globals.poll * 48000),
                                                        lastPoll := some s.clock.now }
          bus := { s.bus with poll := some ⟨n, (s.sensor n).cfg.addr, false, .command, false⟩, last := n } })) ∧
  (∀ (s : State),
      (∀ (n : Fin 8) t, (s.sensor n).cfg.enabled = true → (s.sensor n).due = some t →
        exec (.sensorDue n) s = .next ({ s with clock := { s.clock with now := max s.clock.now t } } : State).startPoll) ∧
      (∀ p, s.bus.poll = some p → p.phase = .command →
        let out : List BusSignal := [.start, .byte (BitVec.ofNat 8 (2 * p.addr)), .byte 0x5B#8, .stop]
        (p.voided = false →
          exec .commandPhaseEnd s =
            .next { s with bus := ⟨some { p with phase := .wait s.clock.now }, s.bus.last, out⟩ }) ∧
        (p.voided = true →
          exec .commandPhaseEnd s = .next ({ s with bus := ⟨none, s.bus.last, out⟩ } : State).startPoll)) ∧
      (∀ p t, s.bus.poll = some p → p.phase = .wait t →
        exec .conversionWaitEnd s =
          .next { s with bus := ⟨some { p with phase := .read }, s.bus.last, []⟩,
                         clock := { s.clock with now := max s.clock.now (t + 2400) } }))

/-- An attempt fails with CLOCK_STUCK in any phase, both lines released and no stop condition issued, with DATA_STUCK in the
command or read phase, followed by nine recovery clocks and a stop condition, with NO_ACK in the command or read phase, the
stop condition following the unacknowledged byte, and with the kind R39 gives at the end of its read phase, in which four
of the five bytes were acknowledged. The first failed attempt of a poll is followed by the retry; a failed retry is one
counted failure: the failures rise by 1 to at most 3, and the third makes the sensor FAILED, with its notice where it was
not, and its region loses it where it was FRESH; REGION_STATE and ZONE_STATUS follow where a state changed. The result of a
voided poll is discarded. A bus left free starts the next due poll (R37, R38, R40, R42, R45, R46, R49, R71). That a held
clock line fails the conversion wait and a held data line does nothing there is the model's (log entry 46), and so are what
is held of a phase cut short and the bits of the address byte (log entries 45 and 53). -/
def Obligations.FailedAttemptsAreRetriedThenCounted : Prop :=
  ∀ (s : State) (p : Poll), s.bus.poll = some p →
    let old := s.sensor p.sensor
    let low := BitVec.ofNat 8 (2 * p.addr)
    let high := BitVec.ofNat 8 (2 * p.addr + 1)
    let fails := fun (i : Instr) (k : FailKind) (out : List BusSignal) =>
      let n := min 3 (old.fails + 1)
      let new : Sensor := { old with fails := n, lastFail := some k, state := if n = 3 then .failed else old.state }
      let u := (s.setSensor p.sensor new).withBus ⟨none, s.bus.last, out⟩
      (p.voided = true → exec i s = .next ({ s with bus := ⟨none, s.bus.last, out⟩ } : State).startPoll.settleTx) ∧
      (p.voided = false → p.retry = false →
        exec i s =
          .next ({ s with bus := ⟨some { p with retry := true, phase := .command }, s.bus.last, out⟩ } : State).settleTx) ∧
      (p.voided = false → p.retry = true →
        ∃ t, exec i s = .next t ∧ t.sensors = u.startPoll.sensors ∧ t.bus = u.startPoll.bus ∧
          t.regions = (if n = 3 ∧ old.state = .fresh then (u.reevaluate old.cfg.region).regions else s.regions) ∧
          s.link.Notes t.link ∧
          (p.sensor < 8 → old.cfg.region < 8 → t.link = (s.link.noted
            ((if n = 3 ∧ old.state ≠ .failed then
              [.sensorState p.sensor old.state .failed 3 (some k) (old.reading.map fun x => x.temp)
                (old.reading.map fun x => x.hum) old.cfg.region] else []) ++
              s.regionChange t old.cfg.region ++ t.statusNotices fun d => (s.zone d).status)).transmit) ∧
          s.FollowsRegions t ∧
          t = { s with zones := t.zones, sensors := t.sensors, bus := t.bus, regions := t.regions, link := t.link })
    fails .clockStuck .clockStuck [] ∧
    (p.phase = .command ∨ p.phase = .read →
      fails .dataStuck .dataStuck (List.replicate 9 .recoveryClock ++ [.stop])) ∧
    (∀ since, p.phase = .wait since → exec .dataStuck s = .next s) ∧
    (p.phase = .command → fails (.sensorAttemptEnd (.noAck false)) .noAck [.start, .byte low, .stop]) ∧
    (p.phase = .command → fails (.sensorAttemptEnd (.noAck true)) .noAck [.start, .byte low, .byte 0x5B#8, .stop]) ∧
    (p.phase = .read → fails (.sensorAttemptEnd (.noAck false)) .noAck [.start, .byte high, .stop]) ∧
    (∀ t1 t0 h1 h0 check k, p.phase = .read → convertRead t1 t0 h1 h0 check = .inl k →
      fails (.sensorAttemptEnd (.read t1 t0 h1 h0 check)) k
        [.start, .byte high, .ack, .ack, .ack, .ack, .nack, .stop])

/-- The check and conversion of a read: the CRC-8 over the four data bytes, bit by bit with polynomial x⁸+x²+x+1 from 0,
is compared before the range is; the temperature is the raw temperature, −4,000 to +8,500, divided by 10 and rounded half
away from zero; the humidity is the raw humidity, at most 10,000, divided by 100 and rounded nearest, ties up (R39). -/
def Obligations.ReadsAreCheckedAndConverted : Prop :=
  ∀ t1 t0 h1 h0 check : Byte,
    let message : BitVec 32 := t1 ++ t0 ++ h1 ++ h0
    let crc : BitVec 8 := (List.range 32).foldl
      (fun c i => if c.msb = message.getMsbD i then c <<< 1 else (c <<< 1) ^^^ 0x07#8) 0x00#8
    let t : Int := (t1 ++ t0 : BitVec 16).toInt
    let h := (h1 ++ h0 : BitVec 16).toNat
    (crc ≠ check → convertRead t1 t0 h1 h0 check = .inl .badCheck) ∧
    (crc = check → t < -4000 ∨ 8500 < t ∨ 10000 < h → convertRead t1 t0 h1 h0 check = .inl .outOfRange) ∧
    (crc = check → -4000 ≤ t → t ≤ 8500 → h ≤ 10000 →
      convertRead t1 t0 h1 h0 check =
        .inr (if 0 ≤ t then (t + 5).toNat / 10 else -(((5 - t).toNat / 10 : Nat) : Int), (h + 50) / 100)) ∧
    (∀ x, convertRead t1 t0 h1 h0 check = .inr x → -400 ≤ x.1 ∧ x.1 ≤ 850 ∧ x.2 ≤ 100)

/-- A good read of a poll that is not voided writes the reading with the present moment, sets the failures to 0 and the
sensor FRESH, with its notice where it was not; its region is re-evaluated, with REGION_STATE and then ZONE_STATUS where a
state changed; the bus starts the next due poll. The read of a voided poll is discarded. The controller acknowledged four of
the five bytes; that `Bus.sent` holds this phase alone is log entry 45, and the bits of the address byte are the family's
(log entry 53) (R37, R40, R42, R45, R46, R49, R59, R71). -/
def Obligations.GoodReadsAreApplied : Prop :=
  ∀ (t1 t0 h1 h0 check : Byte) (temp : Int) (hum : Nat) (s : State) (p : Poll),
    s.bus.poll = some p → p.sensor < 8 → p.phase = .read → convertRead t1 t0 h1 h0 check = .inr (temp, hum) →
    let old := s.sensor p.sensor
    let new : Sensor := { old with state := .fresh, reading := some ⟨temp, hum, s.clock.now⟩, fails := 0 }
    let bus : Bus := ⟨none, s.bus.last,
      [.start, .byte (BitVec.ofNat 8 (2 * p.addr + 1)), .ack, .ack, .ack, .ack, .nack, .stop]⟩
    let u := (s.setSensor p.sensor new).withBus bus
    (p.voided = true → exec (.sensorAttemptEnd (.read t1 t0 h1 h0 check)) s =
      .next ({ s with bus := bus } : State).startPoll.settleTx) ∧
    (p.voided = false →
      ∃ t, exec (.sensorAttemptEnd (.read t1 t0 h1 h0 check)) s = .next t ∧
        t.sensors = u.startPoll.sensors ∧ t.bus = u.startPoll.bus ∧ t.regions = (u.reevaluate old.cfg.region).regions ∧
        s.link.Notes t.link ∧
        (old.cfg.region < 8 → t.link = (s.link.noted
          ((if old.state = .fresh then [] else
            [.sensorState p.sensor old.state .fresh 0 old.lastFail (some temp) (some hum) old.cfg.region]) ++
            s.regionChange t old.cfg.region ++ t.statusNotices fun d => (s.zone d).status)).transmit) ∧
        s.FollowsRegions t ∧
        t = { s with zones := t.zones, sensors := t.sensors, bus := t.bus, regions := t.regions, link := t.link })

/-! ### Regions -/

/-- The re-evaluation of a region that is not in OVERRIDE forms the mean of its FRESH sensors. In SENSORS the published
temperature takes it where they differ by at least the deadband, and the humidity takes its mean; with no FRESH sensor
left the region enters HELD. From HELD and DEFAULT it enters SENSORS and publishes the mean in full. A change of state
raises REGION_STATE. A region in OVERRIDE, and every other region, stays as it is (R49, R50, R51, R52, R54). -/
def Obligations.RegionsAreReevaluated : Prop :=
  ∀ (s : State) (r : Nat), r < 8 →
    let xs := s.sensors.toList.filter fun x => x.state == .fresh && x.cfg.region == r
    let temp := roundAway ((xs.map fun x => limitInt (-300) 600 ((x.reading.map fun y => y.temp).getD 0)).sum) xs.length
    let hum := roundNearest ((xs.map fun x => (x.reading.map fun y => y.hum).getD 0).sum) xs.length
    let x := s.region r
    let becomes := fun (y : Region) (ns : List Notice) =>
      s.reevaluate r = { s with regions := tset s.regions r y, link := s.link.noted ns }
    (∀ a b, x.state = .override a b → s.reevaluate r = s) ∧
    (x.state = .sensors → xs ≠ [] →
      becomes ⟨.sensors, if s.globals.deadband ≤ (temp - x.temp).natAbs then temp else x.temp, hum⟩ []) ∧
    (x.state = .sensors → xs = [] →
      becomes ⟨.held s.clock.now, x.temp, x.hum⟩ [.regionState r .sensors .held x.temp x.hum 0]) ∧
    (x.state = .deflt ∨ (∃ since, x.state = .held since) → xs ≠ [] →
      becomes ⟨.sensors, temp, hum⟩
        [.regionState r (if x.state = .deflt then .deflt else .held) .sensors temp hum xs.length]) ∧
    (x.state = .deflt ∨ (∃ since, x.state = .held since) → xs = [] → s.reevaluate r = s)

/-- A FRESH sensor becomes STALE, with its notice, three poll intervals after its last good read, and its region is
re-evaluated. A region in HELD enters DEFAULT, publishes the defaults and raises REGION_STATE when the time since
held-since exceeds the hold limit. ZONE_STATUS follows for each zone whose status changed. In any other state nothing
changes. The internal timebase is moved to that moment where it stands before it (log entries 2, 3 and 35) (R43, R46, R49, R51,
R52, R54, R71). -/
def Obligations.ReadingsAndHoldsExpire : Prop :=
  ∀ (s : State),
    (∀ (n : Fin 8) x, (s.sensor n).state = .fresh → (s.sensor n).reading = some x →
      let old := s.sensor n
      let u := (s.reach (x.time + 3 * s.globals.poll * 48000)).setSensor n { old with state := .stale }
      ∃ t, exec (.stalenessExpiry n) s = .next t ∧
        t.sensor n = { old with state := .stale } ∧ (∀ k, k ≠ n.val → t.sensor k = s.sensor k) ∧
        t.regions = (u.reevaluate old.cfg.region).regions ∧
        s.link.Notes t.link ∧
        (old.cfg.region < 8 → t.link = (s.link.noted
          (.sensorState n .fresh .stale old.fails old.lastFail (some x.temp) (some x.hum) old.cfg.region ::
            s.regionChange t old.cfg.region ++ t.statusNotices fun d => (s.zone d).status)).transmit) ∧
        s.FollowsRegions t ∧
        t = { s with clock := u.clock, zones := t.zones, sensors := t.sensors, regions := t.regions, link := t.link }) ∧
    (∀ (n : Fin 8), (s.sensor n).state ≠ .fresh → exec (.stalenessExpiry n) s = .next s) ∧
    (∀ (r : Fin 8) since, (s.region r).state = .held since →
      ∃ t, exec (.holdExpiry r) s = .next t ∧
        t.region r = ⟨.deflt, s.globals.defTemp, s.globals.defHum⟩ ∧ (∀ k, k ≠ r.val → t.region k = s.region k) ∧
        t.link = (s.link.noted
          (.regionState r .held .deflt s.globals.defTemp s.globals.defHum (s.freshIn r).length ::
            t.statusNotices fun d => (s.zone d).status)).transmit ∧
        s.FollowsRegions t ∧
        t = { s with clock := (s.reach (since + s.globals.hold * 48000 + 1)).clock, zones := t.zones,
                     regions := t.regions, link := t.link }) ∧
    (∀ (r : Fin 8), (∀ since, (s.region r).state ≠ .held since) → exec (.holdExpiry r) s = .next s)

/-- REGION_OVERRIDE refuses a number above 7 and a request that is neither set nor clear. A set request limits its values,
names the limited fields, and puts the region in OVERRIDE, publishing them, with REGION_STATE where it was in another
state. A clear request takes a region out of OVERRIDE to SENSORS and its mean, or with no FRESH sensor to DEFAULT, with
REGION_STATE; for a region not in OVERRIDE it changes nothing. ZONE_STATUS follows for each zone whose status changed
(R53, R54, R71). -/
def Obligations.RegionsAreOverridden : Prop :=
  ∀ (tag : Byte) (b : List Byte) (s : State), s.handlerFree → b.length = 5 →
    let r := byteAt b 0
    let c : RxCommand := ⟨0x16#8, tag, b⟩
    let temp := max (-300) (min 600 (s16At b 2))
    let hum := min 100 (byteAt b 4)
    let clamps := (if temp = s16At b 2 then [] else [⟨none, 1⟩]) ++ (if hum = byteAt b 4 then [] else [⟨none, 2⟩])
    let both := fun (o : Host.Outcome State Fault Refusal) =>
      exec (.regionOverrideSet tag b) s = o ∧ exec (.regionOverrideClear tag b) s = o
    let enters := fun (x : Region) (a : Answer) =>
      ∃ t, both (.next t) ∧ t.region r = x ∧ (∀ k, k ≠ r → t.region k = s.region k) ∧
        t.link = (s.link.noted
          ((if (s.region r).state.kind = x.state.kind then [] else
            [.regionState r (s.region r).state.kind x.state.kind x.temp x.hum (s.freshIn r).length]) ++
            t.statusNotices fun d => (s.zone d).status)).answered c a ∧
        s.FollowsRegions t ∧ t = { s with zones := t.zones, regions := t.regions, link := t.link }
    (8 ≤ r ∨ 2 ≤ byteAt b 1 → both (.next (s.answered c ⟨.badValue, [], .none⟩))) ∧
    (r < 8 → byteAt b 1 = 1 →
      enters ⟨.override temp hum, temp, hum⟩ ⟨if clamps = [] then .ok else .clamped, clamps, .none⟩) ∧
    (r < 8 → byteAt b 1 = 0 →
      ((∀ x y, (s.region r).state ≠ .override x y) → both (.next (s.answered c ⟨.ok, [], .none⟩))) ∧
      (∀ x y, (s.region r).state = .override x y →
        (∀ mean, sensorMean (s.freshIn r) = some mean → enters ⟨.sensors, mean.1, mean.2⟩ ⟨.ok, [], .none⟩) ∧
        (s.freshIn r = [] → enters ⟨.deflt, s.globals.defTemp, s.globals.defHum⟩ ⟨.ok, [], .none⟩)))

/-! ### Speed of sound, times of flight and shelf gains -/

/-- A path temperature lies within −300 and +600, and the speed of sound there is 331,300 + 606 × T / 10 rounded half away
from zero, within 313,120 and 367,660; a predicted time of flight is the distance times 768,000 over the speed rounded
nearest, ties up, and at most 981,094 for a distance of at most 400,000 (R57, R58, R61).
The shelf gain of a zone is the distance of the path to its listening microphone times the absorption of the path
humidity times the air compensation, divided by 10,000,000 and rounded nearest, ties up, and at most 120; it is 0 without
a listening microphone or the path to it. The absorption follows Figure 10-2 (R165). -/
def Obligations.SpeedsFlightTimesAndShelves : Prop :=
  ((∀ (s : State) (z m : Nat), -300 ≤ s.pathTemp z m ∧ s.pathTemp z m ≤ 600) ∧
    ∀ T : Int, -300 ≤ T → T ≤ 600 →
      ((speedOfSound T : Int) =
        if 0 ≤ T then (331300 + (606 * T + 5) / 10) else 331300 - (5 - 606 * T) / 10) ∧
      313120 ≤ speedOfSound T ∧ speedOfSound T ≤ 367660 ∧
      predicted 0 T = 0 ∧
      ∀ d, d ≤ 400000 →
        predicted d T ≤ 981094 ∧
        2 * d * 768000 < (2 * predicted d T + 1) * speedOfSound T ∧
        2 * predicted d T * speedOfSound T ≤ 2 * d * 768000 + speedOfSound T) ∧
  (∀ (s : State) (z : Nat),
      ((s.zone z).cfg.mic = none → s.shelf z = 0) ∧
      (∀ m, (s.zone z).cfg.mic = some m →
        ((∀ p ∈ s.paths, ¬ (p.zone = z ∧ p.mic = m)) → s.shelf z = 0) ∧
        (∀ p, s.paths.find? (fun p => p.zone == z && p.mic == m) = some p →
          let hum := ((s.region (s.zone z).cfg.region).hum + (s.region (s.mic m).cfg.region).hum + 1) / 2
          let alpha := if hum ≤ 29 then 160 else if hum ≤ 49 then 110 else if hum ≤ 69 then 80 else 60
          let x := p.dist * alpha * (s.zone z).cfg.airComp
          s.shelf z ≤ 120 ∧ (120 * 10000000 ≤ x → s.shelf z = 120) ∧
          2 * s.shelf z * 10000000 ≤ 2 * x + 10000000 ∧
          (s.shelf z < 120 → 2 * x < (2 * s.shelf z + 1) * 10000000))))

/-! ### Equalisers -/

/-- A new set that reaches a zone whose mute stage is CLOSED becomes current at once, any crossfade and pending set are
discarded and the filter memories cleared. Otherwise a SETTLED equaliser begins a crossfade from its current set, and in a
BLENDING one the crossfade runs on and the set becomes the pending set in place of one already there (R167). -/
def Obligations.NewSetsAreTaken : Prop :=
  ∀ (z : Zone) (c : EqSet),
    (z.stage = .closed → z.takeSet c = { z with eq :=
      { bands := z.eq.bands, current := c, xfade := none, pendingSet := none, memA := [], memB := [] } }) ∧
    (z.stage ≠ .closed → z.eq.xfade = none → z.takeSet c = { z with eq :=
      { z.eq with xfade := some { origin := z.eq.current, dest := c, elapsed := 0 }, pendingSet := none, memB := [] } }) ∧
    (z.stage ≠ .closed → z.eq.xfade ≠ none → z.takeSet c = { z with eq := { z.eq with pendingSet := some c } })

/-- An EQ_SET that a step of R172 refuses gives the reply of the first such step and changes nothing. An accepted one
stores the bands after clamping, the gain of a cut as 0, and forms a new set of them and the present shelf gain, which
the zone takes; in a retirement fade-out the bands are held, in the host band list (log entry 27), and no set is
formed. The reply carries the clamped fields in band order and how the set was taken. Nothing else changes (R166,
R167, R171, R172). -/
def Obligations.EqSetFormsASet : Prop :=
  ∀ (tag : Byte) (b : List Byte) (s : State), s.handlerFree → b.length = 2 + 8 * byteAt b 1 →
    let z := byteAt b 0
    let n := byteAt b 1
    let c : RxCommand := ⟨0x18#8, tag, b⟩
    let zn := s.zone z
    let no := fun st : Status => exec (.eqSet tag b) s = .next (s.answered c ⟨st, [], .none⟩)
    let code := fun i => byteAt b (2 + 8 * i)
    let freq := fun i => u16At b (3 + 8 * i)
    let gain := fun i => s16At b (5 + 8 * i)
    let q := fun i => u16At b (7 + 8 * i)
    let enabled := fun i => byteAt b (9 + 8 * i)
    let band : Nat → Band := fun i =>
      { type := match code i with | 0 => .peak | 1 => .lowShelf | 2 => .highShelf | 3 => .lowCut | _ => .highCut
        freq := max 20 (min 20000 (freq i)), gain := if 3 ≤ code i then 0 else max (-180) (min 120 (gain i))
        q := max 30 (min 1000 (q i)), enabled := enabled i == 1 }
    let clamps : List ClampItem := (List.range n).flatMap fun i =>
      (if (band i).freq = freq i then [] else [⟨some i, 2⟩]) ++
      (if 3 ≤ code i ∨ (band i).gain = gain i then [] else [⟨some i, 3⟩]) ++
      (if (band i).q = q i then [] else [⟨some i, 4⟩])
    let codesOk := ∀ i, i < n → code i ≤ 4 ∧ enabled i ≤ 1
    let bands := (List.range n).map band
    let zn' := { zn with eq := { zn.eq with bands := bands } }
    (48 ≤ z ∨ 8 < n ∨ ¬ codesOk → no .badValue) ∧
    (z < 48 → n ≤ 8 → codesOk → zn.cfg.active = false → no .notFound) ∧
    (z < 48 → n ≤ 8 → codesOk → zn.cfg.active = true →
      exec (.eqSet tag b) s = .next
        ((s.setZone z (if zn.retiring then zn' else zn'.takeSet ⟨bands, s.shelf z⟩)).answered c
          ⟨if clamps = [] then .ok else .clamped, clamps, .eqSet
            (if zn.retiring = true ∨ zn.stage = .closed then .applied
             else if zn.eq.xfade = none then .crossfade else .pended zn.eq.pendingSet.isSome)⟩))

/-! ### Crossfades, fades and millisecond boundaries -/

/-- At the end of an equaliser crossfade the destination becomes the current set, its chain going on with its memories, and
a pending set begins its crossfade at once (R168). At the end of a delay crossfade the running delay becomes its
destination, and the target of that moment is compared with it under the three cases of R79; a retiring zone is STEADY
there (R83, R84, R89).
A completed fade-out closes the stage. A zone that is not retiring then stands STEADY at its target with its latest set
current. A retiring zone takes running delay 0 and the start-up values of its equaliser, the bands of a pending activation
kept as R171 says (log entry 27), and an activation made in the meantime then follows: running delay at the target, first set applied,
and the fade-in begun unless the zone is effectively muted or the audio frame clock is absent. A completed fade-in opens
the stage. An event stands for its moment, its count complete (log entry 2). Nothing else changes (R85, R86, R88, R89, R169, R170, R171). -/
def Obligations.CrossfadesAndFadesEnd : Prop :=
  (∀ (z : Fin 48) (s : State),
      let zn := s.zone z
      let e := zn.eq
      (∀ x, e.xfade = some x →
        (e.pendingSet = none → exec (.eqXfadeEnd z) s = .next (s.setZone z { zn with eq :=
          { bands := e.bands, current := x.dest, xfade := none, pendingSet := none, memA := e.memB, memB := [] } })) ∧
        (∀ p, e.pendingSet = some p → exec (.eqXfadeEnd z) s = .next (s.setZone z { zn with eq :=
          { bands := e.bands, current := x.dest, xfade := some { origin := x.dest, dest := p, elapsed := 0 },
            pendingSet := none, memA := e.memB, memB := [] } }))) ∧
      (∀ o d k, zn.transition = .xfade o d k →
        let diff := (zn.target : Int) - d
        exec (.delayXfadeEnd z) s = .next (s.setZone z { zn with
          running := d, slide := none
          transition := if zn.retiring = true ∨ diff = 0 then .steady
            else if diff.natAbs ≤ zn.cfg.xthr * 16 then .glide else .xfade d zn.target 0 }))) ∧
  (∀ (z : Fin 48) (s : State),
      let zn := s.zone z
      let shut : Zone := { zn with stage := .closed, fade := 0, slide := none, transition := .steady }
      (zn.stage = .fadingOut → zn.retiring = false →
        ∃ e, exec (.fadeOutComplete z) s = .next (s.setZone z { shut with running := zn.target, eq := e }) ∧
          e.bands = zn.eq.bands ∧ e.current = zn.eq.latest ∧ e.xfade = none ∧ e.pendingSet = none) ∧
      (zn.stage = .fadingOut → zn.retiring = true → zn.cfg.active = false →
        exec (.fadeOutComplete z) s = .next (s.setZone z { shut with
          running := 0, retiring := false, eq := ⟨zn.eq.bands, ⟨[], 0⟩, none, none, [], []⟩ })) ∧
      (zn.stage = .fadingOut → zn.retiring = true → zn.cfg.active = true →
        exec (.fadeOutComplete z) s = .next (s.setZone z { shut with
          running := zn.target, retiring := false, eq := ⟨zn.eq.bands, ⟨zn.eq.bands, s.shelf z⟩, none, none, [], []⟩
          stage := if zn.hostMute = true ∨ s.muteAll = true ∨ s.clock.audio = false then .closed else .fadingIn })) ∧
      (zn.stage = .fadingIn → exec (.fadeInComplete z) s = .next (s.setZone z { zn with stage := .opened, fade := 960 })))

/-- At each audio frame the feed sample of a zone, silence for one that is UNUSED or retiring (log entry 47) or has no
feed, enters its delay memory; a delay crossfade, a fade and an equaliser crossfade count one sample on; a stage at fade
position 0 puts out silence, and an OPEN zone at rest whose set passes the signal puts out the sample its running delay has
reached (R3, R77, R78, R83, R85, R89, R163, R164, R168). At a millisecond boundary the running delay of a gliding zone
moves toward its target by the smaller of the slew and the remaining difference, and the zone is STEADY when it reaches it.
Every microphone in use takes its ambient level, 20 × log10 of the RMS of its history over full scale (log entry 12),
rounded to 0.1 dB and no lower than −120.0, and its silent time rises by 1, to at most 10,000, below −80.0, and is 0
otherwise. No boundary passes while the audio frame clock is absent (R80, R151, R152). A disabled condition keeps its
counter at 0; the memory's length, the place in a frame at which a position is read and `slide` are the model's own (log
entries 11, 14 and 43). -/
def Obligations.MillisecondBoundaryMovesGlides : Prop :=
  (∀ (s : State) (words : List Int) (z : Nat), z < 48 →
    let t := s.audioFrame words
    let x := s.zone z
    let feed := if x.cfg.active = true ∧ x.retiring = false then (match x.cfg.feed with
      | some f => words.getD f 0 | none => 0) else 0
    let memory := (feed :: x.memory).take 48004
    let heard := memory.getD (x.running / 16) 0
    t = { s with clock := { s.clock with lastFrame := s.clock.now, frames := s.clock.frames + 1 }
                 zones := t.zones, mics := t.mics, flight := t.flight, outSlots := t.outSlots } ∧
    t.zone z = { x with
      memory := memory
      transition := match x.transition with | .xfade o d k => .xfade o d (min 960 (k + 1)) | y => y
      fade := match x.stage with | .fadingOut => x.fade - 1 | .fadingIn => min 960 (x.fade + 1) | _ => x.fade
      eq := { x.eq with
        memA := (t.zone z).eq.memA, memB := (t.zone z).eq.memB
        xfade := x.eq.xfade.map fun b => { b with elapsed := min 480 (b.elapsed + 1) } } } ∧
    (x.fade = 0 → tget t.outSlots z = 0) ∧
    (x.fade = 960 → x.transition = .steady → x.slide = none → x.running % 16 = 0 → s.flight = none → x.eq.xfade = none →
      (∀ b ∈ x.eq.current.bands, b.enabled = false) → x.eq.current.shelf = 0 →
      -(2 : Int) ^ (Config.wordBits - 1) ≤ heard → heard < 2 ^ (Config.wordBits - 1) → tget t.outSlots z = heard)) ∧
  ∀ (s : State),
    (s.clock.audio = false → exec .millisecondBoundary s = .next s) ∧
    (s.clock.audio = true → ∃ t, exec .millisecondBoundary s = .next t ∧
      (∀ z, z < 48 →
        ((s.zone z).transition ≠ .glide → t.zone z = { s.zone z with slide := none }) ∧
        ((s.zone z).transition = .glide →
          let old := (s.zone z).running
          let goal := (s.zone z).target
          let slew := (s.zone z).cfg.slew
          t.zone z = { s.zone z with
            slide := some old
            running := if goal ≤ old + slew ∧ old ≤ goal + slew then goal else if old < goal then old + slew else old - slew
            transition := if goal ≤ old + slew ∧ old ≤ goal + slew then .steady else .glide })) ∧
      (∀ m, m < 16 → (s.mic m).cfg.inUse = false → t.mic m = s.mic m) ∧
      (∀ m, m < 16 → (s.mic m).cfg.inUse = true →
        let x := s.mic m
        let a := (t.mic m).ambient
        let power := (x.history.map fun v => v.natAbs ^ 2).sum
        let full := x.history.length * (2 ^ (Config.wordBits - 1)) ^ 2
        t.mic m = { x with ambient := a, silentMs :=
          if x.cfg.enables.silent = true ∧ a < -800 then min 10000 (x.silentMs + 1) else 0 } ∧
        -1200 ≤ a ∧ a ≤ 0 ∧ (power = 0 → a = -1200) ∧
        (power ≠ 0 → (a < 0 → 10 ^ (2 * (-a).toNat - 1) * power ^ 200 ≤ full ^ 200) ∧
          (-1200 < a → full ^ 200 < 10 ^ (2 * (-a).toNat + 1) * power ^ 200))) ∧
      t = { s with clock := { s.clock with frames := 0 }, zones := t.zones, mics := t.mics })

/-! ### The audio frame clock -/

/-- At the loss of the audio frame clock every stage is CLOSED, every memory holds silence and every filter memory is
cleared (log entry 56); a zone that was not CLOSED and is not retiring stands STEADY at its target with its latest set
current; a retiring one takes running delay 0 and no set, or, where it has been activated again, stands at its target
with its first set. The flight ends at once with the outcome already pending, else ABORTED_CLOCK. Every microphone
loses its history and its signal counters and keeps its state, causes and DEAF run. No waiting entry starts (R89, R90,
R101, R129, R161, R169, R170). At the return of the audio frame clock every ACTIVE zone that is not effectively muted
and whose stage is CLOSED begins its fade-in, the others staying as they are; every microphone begins a fresh overload
window; and the arbiter and the scheduler consider the queue (R91, R99, R101, R103, R161). In a frame in which the
feed of a STEADY zone has not come as far as its running delay, cleared filters being fed silence so far, the zone
plays silence, but for a probe, and its filters stay cleared (R88, R91), as log entry 57 reads the interpolation and
the filters. A loss while the clock is absent and a return while it is present change nothing (log entry 3), and the
loss leaves the internal timebase where it stands (log entry 2). -/
def Obligations.AudioClockIsLostAndReturns : Prop :=
  (∀ (s : State),
      (s.clock.audio = false → exec .audioClockLoss s = .next s) ∧
      (s.clock.audio = true → ∃ t, exec .audioClockLoss s = .next t ∧
        t.clock = { s.clock with audio := false } ∧
        (∀ z, z < 48 →
          (t.zone z).stage = .closed ∧ (t.zone z).memory = [] ∧ (t.zone z).cfg = (s.zone z).cfg ∧
          (t.zone z).target = (s.zone z).target ∧ (t.zone z).eq.bands = (s.zone z).eq.bands ∧
          (t.zone z).eq.memA = [] ∧ (t.zone z).eq.memB = [] ∧
          ((s.zone z).stage = .closed → t.zone z = { s.zone z with
            memory := [], eq := { (s.zone z).eq with memA := [], memB := [] } }) ∧
          ((s.zone z).stage ≠ .closed → (t.zone z).fade = 0 ∧ (t.zone z).retiring = false ∧
            (t.zone z).transition = .steady ∧ (t.zone z).eq.xfade = none ∧ (t.zone z).eq.pendingSet = none ∧
            ((s.zone z).retiring = false →
              (t.zone z).running = (s.zone z).target ∧ (t.zone z).eq.current = (s.zone z).eq.latest) ∧
            ((s.zone z).retiring = true → (s.zone z).cfg.active = false →
              (t.zone z).running = 0 ∧ (t.zone z).eq.current = ⟨[], 0⟩) ∧
            ((s.zone z).retiring = true → (s.zone z).cfg.active = true →
              (t.zone z).running = (s.zone z).target ∧
              (t.zone z).eq.current = ⟨(s.zone z).eq.bands, s.shelf z⟩))) ∧
        (∀ m, m < 16 → t.mic m = { s.mic m with history := [], ambient := -1200, silentMs := 0, clip := 0, ident := 0 }) ∧
        t.flight = none ∧ (∃ autos, t.queue = s.queue ++ autos ∧ ∀ e ∈ autos, e.cls = .auto) ∧
        t.link = (match s.flight with
          | none => s.link
          | some f => s.link.raise (.measureDone
            { zone := f.zone, kind := f.kind, cls := f.cls, outcome := f.pendingOutcome.getD .abortedClock,
              attempts := f.attempt, level := f.level
              entries := f.listen.map fun (l : Listen) => { mic := l.mic, verdict := match l.standing with
                | .dropped => .micDown | .masked => .masked | .heard => .notRun } })).transmit ∧
        t = { s with clock := t.clock, zones := t.zones, mics := t.mics, flight := none, queue := t.queue, due := t.due,
                     link := t.link } ∧
        (let ended := match s.flight with
           | none => s
           | some f => s.ended f (f.pendingOutcome.getD .abortedClock)
         let u : State := { ended with clock := t.clock, zones := t.zones, mics := t.mics }
         t = u.settleQueue.settleTx))) ∧
  (∀ (s : State),
      (s.clock.audio = true → exec .audioClockReturn s = .next s) ∧
      (s.clock.audio = false → ∃ t, exec .audioClockReturn s = .next t ∧
        t.clock = { s.clock with audio := true, lastFrame := s.clock.now, frames := 0 } ∧
        (∀ z, z < 48 → (s.zone z).stage = .closed ∨ (s.zone z).stage = .opened ∨ (s.zone z).stage = .fadingIn →
          t.zone z = { s.zone z with stage :=
            if (s.zone z).stage = .closed ∧ (s.zone z).retiring = false ∧ (s.zone z).cfg.active = true ∧
              (s.zone z).hostMute = false ∧ s.muteAll = false then .fadingIn else (s.zone z).stage }) ∧
        (∀ m, m < 16 → t.mic m = { s.mic m with clip := 0, windowPos := 0 }) ∧
        (∀ f, s.flight = some f → t.flight = some f) ∧ s.link.Notes t.link ∧
        t = { s with clock := t.clock, zones := t.zones, mics := t.mics, flight := t.flight, queue := t.queue, due := t.due,
                     link := t.link } ∧
        (let u : State := { s with clock := t.clock, zones := t.zones, mics := t.mics }
         t = u.settleQueue.settleTx))) ∧
  (∀ (s : State) (words : List Int) (z : Nat), z < 48 →
      let x := s.zone z
      let t := s.audioFrame words
      x.transition = .steady → x.slide = none → 16 ≤ x.running → (∀ v ∈ x.memory.drop (x.running / 16 - 1), v = 0) →
      (∀ n ∈ x.eq.memA, n = 0) → (∀ n ∈ x.eq.memB, n = 0) → (∀ f, s.flight = some f → f.zone ≠ z) →
      tget t.outSlots z = 0 ∧ (∀ n ∈ (t.zone z).eq.memA, n = 0) ∧ (∀ n ∈ (t.zone z).eq.memB, n = 0))

/-! ### The probe queue -/

/-- A PROBE_REQUEST that a step of Figure 6-2 refuses gives the reply of the first such step and changes nothing. An
accepted one displaces the zone's AUTO entry, with no notice, and its entry joins the end of the queue with the level
limited to −60 to −20 and the repeats to 1 to 16; the reply carries the position and the flags. The arbiter and the
scheduler then consider the queue: while a measurement is in flight the entry waits; with none in flight, the audio frame
clock present, HOLD released and no other HOST entry waiting it starts at once (R94, R95, R96, R99, R101). -/
def Obligations.ProbeRequestIsAdmitted : Prop :=
  ∀ (tag : Byte) (b : List Byte) (s : State), s.handlerFree → 7 ≤ b.length → b.length = 7 + byteAt b 6 →
    let z := byteAt b 0
    let mics := (b.drop 7).map fun x => x.toNat
    let c : RxCommand := ⟨0x1C#8, tag, b⟩
    let no := fun st : Status => exec (.probeRequest tag b) s = .next (s.answered c ⟨st, [], .none⟩)
    let queue := s.queue.filter fun e => !(e.zone == z && e.cls == .auto)
    let hasLevel := (b.getD 2 0#8).getLsbD 0
    let hasRepeats := (b.getD 2 0#8).getLsbD 1
    let level := max (-60) (min (-20) (sbyteAt b 3))
    let repeats := max 1 (min 16 (byteAt b 4))
    (48 ≤ z → no .badValue) ∧
    (z < 48 → byteAt b 1 ∉ [0, 1, 3, 4] → no .badValue) ∧
    (∀ k, z < 48 → (byteAt b 1, k) ∈ [(0, Kind.survey), (1, .check), (3, .loopInt), (4, .loopExt)] →
      let listOk := mics.length ≤ 16 ∧ (∀ m ∈ mics, m < 16) ∧ mics.Nodup ∧ (k = .loopExt → mics.length = 1) ∧
        (k = .loopInt → mics = [])
      (¬ listOk → no .badValue) ∧
      (listOk → (s.zone z).cfg.active = false → no .notFound) ∧
      (listOk → (s.zone z).cfg.active = true → (∃ m ∈ mics, (s.mic m).cfg.inUse = false) → no .notFound) ∧
      (listOk → (s.zone z).cfg.active = true → (∀ m ∈ mics, (s.mic m).cfg.inUse = true) →
        let muted := (s.zone z).hostMute = true ∨ s.muteAll = true
        let flies := ∃ f, s.flight = some f ∧ f.zone = z
        let waits := ∃ e ∈ s.queue, e.zone = z ∧ e.cls = .host
        let entry : Entry := ⟨z, .host, k, mics, if hasLevel then some level else none,
          if hasRepeats then some repeats else none, s.clock.now / 48000⟩
        (k ≠ .loopInt → muted → no .busy) ∧
        (k = .loopInt ∨ ¬ muted → flies → no .busy) ∧
        (k = .loopInt ∨ ¬ muted → ¬ flies → waits → no .duplicate) ∧
        (k = .loopInt ∨ ¬ muted → ¬ flies → ¬ waits → 32 ≤ queue.length → no .queueFull) ∧
        (k = .loopInt ∨ ¬ muted → ¬ flies → ¬ waits → queue.length < 32 →
          ∃ t started, exec (.probeRequest tag b) s = .next t ∧
            s.link.Answers t.link c ⟨.accepted, [], .probe queue.length (hasLevel && level != sbyteAt b 3)
              (hasRepeats && repeats != byteAt b 4) started⟩ ∧
            (started = true ↔ entry ∉ t.queue) ∧
            (∀ e ∈ t.queue, e.cls = .host → e ∈ queue ++ [entry]) ∧
            (∀ f, s.flight = some f → t.flight = some f ∧ started = false ∧
              ∃ autos, t.queue = queue ++ [entry] ++ autos ∧ ∀ e ∈ autos, e.cls = .auto) ∧
            (s.flight = none → s.clock.audio = true → s.holdOn = false → (∀ e ∈ s.queue, e.cls = .auto) →
              started = true) ∧
            t = { s with queue := t.queue, due := t.due, flight := t.flight, link := t.link } ∧
            (let u : State := { s.taking c with queue := queue ++ [entry] }
             t = u.settleQueue.replied c ⟨.accepted, [], .probe queue.length (hasLevel && level != sbyteAt b 3)
               (hasRepeats && repeats != byteAt b 4) started⟩))))

/-- An abort cause that names zones reaches a flight of one of them, LOOP_INT excepted where the cause spares it, that has
no pending outcome: in QUIET_WAIT it ends at once with the cause's outcome, else it ramps out with its captures discarded
(R125, R126, R127). Waiting entries that are removed leave the queue, each HOST entry with a MEASURE_DONE of outcome
REMOVED, in queue order (R108). PROBE_CANCEL refuses a number above 47 that is not ALL. Otherwise it removes the selected
waiting entries, with no notice for them, each removed AUTO entry's tracked zone taking a new due time, and its abort, with
outcome CANCELLED, reaches a flight of a selected zone; the reply carries the number removed and whether a flight was
aborted. The arbiter and the scheduler then consider the queue (R98, R99, R103, R104). -/
def Obligations.ProbeCancelRemovesAndAborts : Prop :=
  (∀ (s : State) (f : Flight) (p : Nat → Bool) (spares : Bool) (o : MeasureOutcome), s.flight = some f →
    let meant := p f.zone = true ∧ ¬ (spares = true ∧ f.kind = .loopInt)
    (¬ meant ∨ f.pendingOutcome ≠ none → s.abortWhere p spares o = s) ∧
    (meant → f.pendingOutcome = none → f.phase = .quietWait → s.abortWhere p spares o = s.ended f o) ∧
    (meant → f.pendingOutcome = none → f.phase ≠ .quietWait → s.abortWhere p spares o =
      { s with flight := some { f with
          pendingOutcome := some o, phase := .rampOut, loopAcc := []
          listen := f.listen.map fun l => { l with acc := [] } } })) ∧
  (∀ (s : State) (p : Entry → Bool), s.removeEntries p = { s with
    queue := s.queue.filter fun e => !p e
    link := s.link.noted ((s.queue.filter fun e => p e && e.cls == .host).map fun e => .measureDone
      { zone := e.zone, kind := e.kind, cls := .host, outcome := .removed, attempts := 1
        level := e.level.getD s.globals.level }) }) ∧
  ∀ (tag zb : Byte) (s : State), s.handlerFree →
    let c : RxCommand := ⟨0x1D#8, tag, [zb]⟩
    let selected := fun z => zb == 0xFF#8 || z == zb.toNat
    (48 ≤ zb.toNat → zb ≠ 0xFF#8 → exec (.probeCancel tag [zb]) s = .next (s.answered c ⟨.badValue, [], .none⟩)) ∧
    (zb.toNat < 48 ∨ zb = 0xFF#8 →
      ∃ t aborted, exec (.probeCancel tag [zb]) s = .next t ∧
        s.link.Answers t.link c ⟨.ok, [], .cancel (s.queue.countP fun e => selected e.zone) aborted⟩ ∧
        (aborted = true ↔ ∃ f, s.flight = some f ∧ selected f.zone = true ∧ f.pendingOutcome = none) ∧
        (∀ e ∈ t.queue, e.cls = .host → e ∈ s.queue ∧ selected e.zone = false) ∧
        (∀ e ∈ s.queue, e.cls = .auto → selected e.zone = true → e.zone < 48 → s.tracked e.zone = true →
          t.dueAt e.zone = some (s.clock.now + (s.zone e.zone).cfg.interval * 48000)) ∧
        (∀ f, s.flight = some f →
          (aborted = false → t.flight = some f) ∧
          (aborted = true → f.phase ≠ .quietWait →
            t.flight = some { f.discard with pendingOutcome := some .cancelled, phase := .rampOut }) ∧
          (aborted = true → f.phase = .quietWait →
            ∃ more, t.link = (s.link.noted (.measureDone
              (f.done .cancelled (f.listen.map Listen.notRun) none none) :: more)).answered c
                ⟨.ok, [], .cancel (s.queue.countP fun e => selected e.zone) true⟩)) ∧
        t = { s with queue := t.queue, due := t.due, flight := t.flight, link := t.link } ∧
        (let u : State := { s.taking c with
           queue := s.queue.filter fun e => !selected e.zone
           due := tmap (fun z d => if s.tracked z && s.queue.any fun e => e.zone == z && selected z && e.cls == .auto then
             some (s.clock.now + (s.zone z).cfg.interval * 48000) else d) s.due }
         t = (u.abortWhere selected false .cancelled).settleQueue.replied c
           ⟨.ok, [], .cancel (s.queue.countP fun e => selected e.zone) aborted⟩))

/-- When the engine is IDLE and the audio frame clock present, the arbiter starts the oldest HOST entry, else, outside a
freeze, the oldest AUTO entry; under HOLD the oldest LOOP_INT. The entry leaves the queue and its parameters are fixed:
the global order, the entry's level and repeats or the global defaults, the listed microphones HEARD while UP and else
DROPPED, and for an empty list every UP microphone, for CHECK and TRACK those with a path. With none HEARD it ends at once
with NO_MICS; else it enters its first state, and QUIET_WAIT is left at once where a HEARD microphone is quiet enough.
With the engine busy or the clock absent
nothing starts. The arbiter acts before the scheduler (log entry 21) (R101, R103, R112, R113, R114). -/
def Obligations.ArbiterStartsTheOldest : Prop :=
  ∀ (s : State),
    (s.nextEntry =
      if s.holdOn then s.queue.find? fun e => e.cls == .host && e.kind == .loopInt
      else (s.queue.find? fun e => e.cls == .host).or
        (if s.frozen then none else s.queue.find? fun e => e.cls == .auto)) ∧
    (s.clock.audio = false ∨ s.flight ≠ none →
      s.settleQueue.link = s.link ∧ s.settleQueue.flight = s.flight ∧
      ∃ autos, s.settleQueue.queue = s.queue ++ autos ∧ ∀ x ∈ autos, x.cls = .auto) ∧
    (∀ e, s.flight = none → s.clock.audio = true → s.nextEntry = some e →
      let loops := e.kind = .loopInt ∨ e.kind = .loopExt
      let gated := e.kind = .check ∨ e.kind = .track
      let mics := if e.kind = .loopInt then [] else if e.listen ≠ [] then e.listen else
        (List.range 16).filter fun m => (s.mic m).up && (decide (¬ gated) || (s.path e.zone m).isSome)
      let period := 2 ^ s.globals.order - 1
      let window := fun m => match s.path e.zone m with
        | some p => if gated then Window.placed
            (roundAway (s.tofEff p + (s.zone e.zone).cfg.outLat + (s.mic m).cfg.latency) 16)
            (min (if p.tracker = .acquire then (s.zone e.zone).cfg.gate * 4 else (s.zone e.zone).cfg.gate) (period / 2))
          else .whole
        | none => .whole
      let listen : List Listen := mics.map fun m =>
        if (s.mic m).up then { mic := m, standing := .heard, window := window m }
        else { mic := m, standing := .dropped, window := .whole }
      let f : Flight := {
        zone := e.zone, cls := e.cls, kind := e.kind, admitted := e.admitted,
        phase := if loops then .leadIn else .quietWait, listen := listen, order := s.globals.order,
        level := e.level.getD s.globals.level, repeats := e.repeats.getD s.globals.repeats,
        quietSince := if loops then none else some s.clock.now }
      let heard := fun l : Listen => l.standing == .heard
      let quiet := fun l : Listen => decide ((s.mic l.mic).ambient ≤ s.globals.ceiling * 10)
      (e.kind ≠ .loopInt → listen.any heard = false →
        ∃ more, s.settleQueue.link = s.link.noted
          (.measureDone (f.done .noMics (listen.map fun l => { mic := l.mic, verdict := .micDown }) none none) :: more)) ∧
      (e.kind = .loopInt ∨ listen.any heard = true →
        s.settleQueue.link = s.link ∧
        s.settleQueue.flight = some
          (if f.phase = .quietWait ∧ listen.any (fun l => heard l && quiet l) = true then
            { f with phase := .leadIn, quietSince := none, listen := listen.map fun l =>
                if heard l = true ∧ quiet l = false then { l with standing := .masked } else l }
           else f) ∧
        ∃ autos, s.settleQueue.queue = s.queue.erase e ++ autos ∧ ∀ x ∈ autos, x.cls = .auto))

/-- TRACKING_DUE moves the internal timebase to the due time where it stands before it (log entry 2). A tracked zone whose
due time has passed is admitted at the end of the queue with an AUTO entry of kind TRACK when supervision is not frozen,
HOLD is not asserted, the zone is not effectively muted, a path leads from it to an UP microphone, no entry of it waits or
flies and fewer than 24 entries wait; where one of these fails it is not admitted. Its due time stays while it waits. With
the engine IDLE, the audio frame clock present and no other entry waiting, the admitted entry starts at once (R98, R99,
R101, R103). Due is at or past the due time (log entry 34). -/
def Obligations.TrackingDueAdmitsTheZone : Prop :=
  ∀ (z : Fin 48) (s : State) (d : Nat), s.dueAt z = some d →
    let now := max s.clock.now d
    let u : State := { s with clock := { s.clock with now := now } }
    let open_ := s.frozen = false ∧ s.holdOn = false ∧ (s.zone z).hostMute = false ∧ s.muteAll = false ∧
      (∃ p ∈ s.paths, p.zone = z.val ∧ (s.mic p.mic).up = true) ∧ (∀ e ∈ s.queue, e.zone ≠ z.val) ∧
      (∀ f, s.flight = some f → f.zone ≠ z.val) ∧ s.queue.length < 24
    let only := ∀ y, y < 48 → y ≠ z.val → u.admissible y = false
    ∃ t, exec (.trackingDue z) s = .next t ∧
      t = u.settleQueue.settleTx ∧
      t = { u with queue := t.queue, due := t.due, flight := t.flight, link := t.link } ∧
      (∀ f, s.flight = some f →
        t = { u with queue := t.queue, link := s.link.transmit } ∧
        ((s.zone z).cfg.active = true → (s.zone z).cfg.tracking = true → open_ → only →
          t.queue = s.queue ++ [⟨z, .auto, .track, [], none, none, now / 48000⟩]) ∧
        (¬ open_ → ∀ e ∈ t.queue, e.zone = z.val → e ∈ s.queue)) ∧
      (s.flight = none → s.clock.audio = true → s.queue = [] → (s.zone z).cfg.active = true →
        (s.zone z).cfg.tracking = true → open_ → only →
        t.queue = [] ∧ ∃ f, t.flight = some f ∧ f.zone = z.val ∧ f.cls = .auto ∧ f.kind = .track ∧
          f.admitted = now / 48000)

/-! ### Measurements -/

/-- A frame of CAPTURE adds the sample of each HEARD microphone to its accumulator at the place of the frame in the period,
and of LOOP_INT the probe sample itself; LEAD_IN raises the ramp by one, to at most 960, and ANALYSE and RAMP_OUT lower it
(R115, R116, R117, R123, R127). The quiet wait is left for LEAD_IN when a HEARD microphone is quiet enough, each louder one
standing MASKED, and not before (R114). When the time since its start exceeds the defer limit, every HEARD microphone is
MASKED and the measurement ends with outcome MASKED (R114, R131). LEAD_IN ends in CAPTURE with empty accumulators, CAPTURE
in ANALYSE at full ramp (R115, R116, R117). The ramp-out of an abort ends the measurement with its pending outcome (R127).
The end of a flight raises MEASURE_DONE and gives its tracked zone a new due time, and the arbiter and the scheduler then
consider the queue (R98, R103, R132). The defer limit's event moves the internal timebase to its moment (log entries 2 and
35); a quiet wait that hears no quiet microphone, or another phase, is not left (log entry 3).
The sequence, and the rounding of its amplitude, are free (log entries 11 and 13). -/
def Obligations.MeasurementPhasesEnd : Prop :=
  (∀ (s : State) (words : List Int), (s.audioFrame words).flight = s.flight.map fun f =>
    let i := f.elapsed % (2 ^ f.order - 1)
    match f.phase with
    | .quietWait => f
    | .leadIn => { f with ramp := min 960 (f.ramp + 1), elapsed := f.elapsed + 1 }
    | .capture => { f with
        elapsed := f.elapsed + 1
        listen := f.listen.map fun l => if l.standing = .heard then
          { l with acc := accAdd l.acc i (words.getD (s.mic l.mic).cfg.slot 0) } else l
        loopAcc := if f.kind = .loopInt then accAdd f.loopAcc i (probeSign f.order i * amplitude f.level) else f.loopAcc }
    | .analyse => { f with ramp := f.ramp - 1, elapsed := f.elapsed + 1 }
    | .rampOut => { f with ramp := f.ramp - 1, elapsed := f.elapsed + 1 }) ∧
  (∀ (acc : List Int) (i j : Nat) (x : Int),
    (accAdd acc i x).getD j 0 = if j = i then acc.getD j 0 + x else acc.getD j 0) ∧
  ∀ (s : State) (f : Flight), s.flight = some f →
    let heard := fun l : Listen => l.standing == .heard
    let quiet := fun l : Listen => decide ((s.mic l.mic).ambient ≤ s.globals.ceiling * 10)
    let ends := fun (i : Instr) (now : Nat) (o : MeasureOutcome) (ls : List Listen) =>
      let reached : State := { s with clock := { s.clock with now := now } }
      exec i s = .next (reached.ended { f with listen := ls } o).settleQueue.settleTx
    (f.phase = .quietWait → f.listen.any (fun l => heard l && quiet l) = true →
      exec .quietWaitLeave s = .next { s with flight := some { f with
        phase := .leadIn, ramp := 0, elapsed := 0, quietSince := none
        listen := f.listen.map fun l => if heard l = true ∧ quiet l = false then { l with standing := .masked } else l } }) ∧
    (f.phase ≠ .quietWait ∨ f.listen.any (fun l => heard l && quiet l) = false → exec .quietWaitLeave s = .next s) ∧
    (∀ since, f.phase = .quietWait → f.quietSince = some since →
      ends .deferLimitExpiry (max s.clock.now (since + s.globals.defer * 48000 + 1)) .masked
        (f.listen.map fun l => if heard l then { l with standing := .masked } else l)) ∧
    (f.phase = .leadIn → exec .leadInEnd s = .next { s with flight := some { f with
        phase := .capture, ramp := 960, elapsed := 0, loopAcc := [], listen := f.listen.map fun l => { l with acc := [] } } }) ∧
    (f.phase = .capture → exec .captureEnd s = .next { s with flight := some { f with
        phase := .analyse, ramp := 960, elapsed := 0 } }) ∧
    (∀ o, f.phase = .rampOut → f.pendingOutcome = some o → ends .rampOutEnd s.clock.now o f.listen)

/-- The peak of a window is the first of its samples with the largest magnitude; the unwrapped arrival is 16 times it plus
the sub-sample offset, 16δ rounded half away from zero and limited to −8 to +8, and the reported arrival is the unwrapped
one modulo 16 times the period (R118). The PNR is 100 × log10 of the peak's power over the mean power of the noise, rounded
nearest and at most 999; without noise it is 999 or 0 (R119). The verdict of a HEARD microphone of a SURVEY, CHECK or TRACK
is the first that applies of LOW_PNR, OUTSIDE_GATE for an edge peak of a placed window, IMPLAUSIBLE, and FOUND; the time of
flight is the unwrapped arrival minus the two latencies, absent with LOW_PNR (R120). A LOOP_EXT is judged by its candidate
latency (R124). That the PNR is not below 0 and that the noise of a whole period wraps around its ends are readings (log
entries 22 and 23). -/
def Obligations.VerdictsFollowThePeaks : Prop :=
  (∀ (mags : List (Nat × Nat)) (period : Nat) (first : Int) (count : Nat), 0 < count →
    ∃ i, i < count ∧ peakSample mags period first count = first + i ∧
      (∀ j, j < count → magAt mags period (first + j) ≤ magAt mags period (first + i)) ∧
      ∀ j, j < i → magAt mags period (first + j) < magAt mags period (first + i)) ∧
  (∀ (mags : List (Nat × Nat)) (w : Window) (period : Nat), 0 < period →
    let p := analysePeak mags w period
    let at_ := fun x : Int => magAt mags period x
    let r := p.unwrapped - 16 * p.k
    let num : Int := 8 * ((at_ (p.k - 1) : Int) - at_ (p.k + 1))
    let den : Int := (at_ (p.k - 1) : Int) - 2 * at_ p.k + at_ (p.k + 1)
    let near := fun x : Int => ((x - p.k) % period).toNat ≤ 32 ∨ period ≤ ((x - p.k) % period).toNat + 32
    let whole := (List.range period).map Int.ofNat
    let noise := match w with
      | .whole => whole.filter fun x => decide (¬ near x)
      | .placed c g => if 2 * g + 1 < 129 then whole.filter fun x => decide (¬ near x)
        else ((List.range (2 * g + 1)).map fun (i : Nat) => c - g + i).filter fun x => decide (x < p.k - 32 ∨ p.k + 32 < x)
    let power := (noise.map fun x => at_ x ^ 2).sum
    let peak := at_ p.k ^ 2 * noise.length
    p.k = (match w with
      | .whole => peakSample mags period 0 period
      | .placed c g => peakSample mags period (c - g) (2 * g + 1)) ∧
    (∀ x y : Int, x % period = y % period → at_ x = at_ y) ∧
    -8 ≤ r ∧ r ≤ 8 ∧ (den = 0 → r = 0) ∧
    (den ≠ 0 → -8 < r → r < 8 → 2 * (num - r * den).natAbs ≤ den.natAbs ∧
      (2 * (num - r * den).natAbs = den.natAbs → (r * den).natAbs > num.natAbs)) ∧
    (den ≠ 0 → r = 8 → 15 * den.natAbs ≤ 2 * num.natAbs ∧ 0 < num * den) ∧
    (den ≠ 0 → r = -8 → 15 * den.natAbs ≤ 2 * num.natAbs ∧ num * den < 0) ∧
    p.pnr ≤ 999 ∧
    (power = 0 → p.pnr = if 0 < at_ p.k then 999 else 0) ∧
    (power ≠ 0 → (0 < p.pnr → 10 ^ (2 * p.pnr - 1) * power ^ 200 ≤ peak ^ 200) ∧
      (p.pnr < 999 → peak ^ 200 < 10 ^ (2 * p.pnr + 1) * power ^ 200))) ∧
  ∀ (s : State) (f : Flight) (rs : List Reading) (l : Listen),
    let p := analysePeak (readingOf rs l.mic) l.window f.period
    let e := s.analyse f rs l
    let edge := match l.window with | .whole => false | .placed c g => p.k == c - g || p.k == c + g
    let tof : Int := p.unwrapped - (s.zone f.zone).cfg.outLat - (s.mic l.mic).cfg.latency
    let latency : Int := (p.arrival : Int) - (s.mic l.mic).cfg.latency
    e.mic = l.mic ∧
    (l.standing = .dropped → e.verdict = .micDown ∧ e.arrival = none ∧ e.pnr = none ∧ e.tof = none) ∧
    (l.standing = .masked → e.verdict = .masked ∧ e.arrival = none ∧ e.pnr = none ∧ e.tof = none) ∧
    (l.standing = .heard → e.arrival = some ((p.unwrapped % (16 * (f.period : Int))).toNat) ∧ e.pnr = some p.pnr) ∧
    (l.standing = .heard → f.kind ≠ .loopExt →
      (p.pnr < s.globals.pnrMin → e.verdict = .lowPnr ∧ e.tof = none) ∧
      (s.globals.pnrMin ≤ p.pnr → e.tof = some tof ∧
        e.verdict =
          (if edge then .outsideGate
           else if tof < 0 ∨ 400000 < impliedDist tof.toNat (s.pathTemp f.zone l.mic) then .implausible else .found))) ∧
    (l.standing = .heard → f.kind = .loopExt →
      (p.pnr < s.globals.pnrMin → e.verdict = .lowPnr ∧ e.tof = none) ∧
      (s.globals.pnrMin ≤ p.pnr → e.tof = some latency ∧
        e.verdict = (if 0 ≤ latency ∧ latency ≤ 76800 then .found else .implausible)))

/-- At the end of ANALYSE a first attempt of a CHECK or TRACK with no FOUND, at least one LOW_PNR and no no-retry mark
is retried from LEAD_IN at 6 dB more, at most −20, the standings carrying over, but for a HEARD microphone that has
left UP, which the retry does not hear (log entry 49) (R121, R150). A LOOP_INT reports PASS when the arrival is 0 and
the PNR at least 600 and writes nothing (R123). A LOOP_EXT writes the FOUND latency of a microphone that is UP at the
completion into the zone and reports it; that of one that left UP in ANALYSE is not written (log entry 60) (R19,
R124). A SURVEY writes the distance of each FOUND entry of an UP microphone into the path table, in listen-set order,
while it has a place, and turns the others to TABLE_FULL; every zone that draws on a written path, and every zone
below one, is solved, the set of the flight's zone is formed where its shelf path was written, and the other zones
keep targets, delays and sets; ZONE_STATUS comes after MEASURE_DONE. The zone's due time starts anew, and the arbiter
and the scheduler consider the queue (R28, R29, R71, R98, R103, R122). -/
def Obligations.AnalysisCompletes : Prop :=
  ∀ (rs : List Reading) (loop : List (Nat × Nat)) (s : State) (f : Flight), s.flight = some f → f.phase = .analyse →
    let es := f.listen.map (s.analyse f rs)
    let retried := (f.kind = .check ∨ f.kind = .track) ∧ f.attempt = 1 ∧ f.noRetry = false ∧
      (∀ e ∈ es, e.verdict ≠ .found) ∧ ∃ e ∈ es, e.verdict = .lowPnr
    let completes := fun (t : State) (d : MeasureDone) =>
      let u : State := { s with
        zones := t.zones, paths := t.paths, flight := none, due := s.dueAfter f
        link := s.link.noted (.measureDone d :: t.statusNotices fun z => (s.zone z).status) }
      exec (.analyseEnd rs loop) s = .next t ∧ t = u.settleQueue.settleTx ∧
        t = { s with zones := t.zones, paths := t.paths, queue := t.queue, due := t.due, flight := t.flight,
                     link := t.link }
    (retried → exec (.analyseEnd rs loop) s = .next { s with flight := some { f with
      attempt := 2, level := min (f.level + 6) (-20), phase := .leadIn, ramp := 0, elapsed := 0, loopAcc := []
      listen := f.listen.map fun l => { l with
        acc := [], standing := if l.standing = .heard ∧ (s.mic l.mic).up = false then .dropped else l.standing } } }) ∧
    (f.kind = .loopInt →
      let p := analysePeak loop .whole f.period
      ∃ t, completes t (f.done .complete [] (some (decide (p.arrival = 0 ∧ 600 ≤ p.pnr))) none) ∧
        t.zones = s.zones ∧ t.paths = s.paths) ∧
    (f.kind = .loopExt →
      let latency := (es.find? fun e => e.verdict == .found && (s.mic e.mic).up).bind fun e => e.tof.map fun x => x.toNat
      ∃ t, completes t (f.done .complete es none latency) ∧ t.paths = s.paths ∧
        (∀ z, z ≠ f.zone → t.zone z = s.zone z) ∧
        t.zone f.zone = (if f.zone < 48 then { s.zone f.zone with cfg :=
          { (s.zone f.zone).cfg with outLat := latency.getD (s.zone f.zone).cfg.outLat } } else s.zone f.zone)) ∧
    (f.kind = .survey →
      let r := es.foldl (fun (acc : List Path × List DoneEntry) e =>
        if e.verdict = .found ∧ (s.mic e.mic).up = true then
          let new : Path := { zone := f.zone, mic := e.mic, dist := impliedDist (e.tof.getD 0).toNat (s.pathTemp f.zone e.mic),
                              origin := .surveyed (s.pathTemp f.zone e.mic) }
          if acc.1.any fun p => p.zone == f.zone && p.mic == e.mic then
            (acc.1.map fun p => if p.zone = f.zone ∧ p.mic = e.mic then new else p, acc.2 ++ [{ e with effect := .distanceSet }])
          else if acc.1.length < 192 then (acc.1 ++ [new], acc.2 ++ [{ e with effect := .distanceSet }])
          else (acc.1, acc.2 ++ [{ e with verdict := .tableFull, tof := none }])
        else (acc.1, acc.2 ++ [e])) (s.paths, [])
      ∃ t, completes t (f.done .complete r.2 none none) ∧ t.paths = r.1 ∧ s.ZonesMoved t ∧
        (let written := fun m => r.2.any fun e => e.mic == m && e.effect == .distanceSet
         let draws := fun d => (s.zone d).cfg.lead.any fun l => (s.zone d).cfg.mic.any fun m =>
           (d == f.zone || l == f.zone) && written m
         (s.frozen = false → chainLaw (fun d => (s.zone d).cfg) → ∀ d, d < 48 → (s.zone d).cfg.active = true →
           s.below draws 48 d = true → t.Solved (s.zone d).target d) ∧
         (∀ d, s.below draws 48 d = false ∨ s.frozen = true → t.stored d = s.stored d ∧
           (t.zone d).running = (s.zone d).running ∧ (t.zone d).transition = (s.zone d).transition) ∧
         ∀ d, d ≠ f.zone ∨ (s.zone d).cfg.mic.any written = false → (t.zone d).eq = (s.zone d).eq) ∧
        (∀ m, (s.zone f.zone).cfg.mic = some m → f.zone < 48 → (s.zone f.zone).cfg.active = true →
          (s.zone f.zone).retiring = false → (∃ e ∈ r.2, e.mic = m ∧ e.effect = .distanceSet) →
          (t.zone f.zone).eq.latest = ⟨(s.zone f.zone).eq.bands, t.shelf f.zone⟩))

/-- An accepted entry adds to a path's correction the error times 128 in ACQUIRE and 32 in TRACK, divided by 256, rounded
half away from zero and limited to −960 and +960, with the limit flag set at a limit. In ACQUIRE an error within 16 raises
the good run, and the third locks the path; another error clears it. In TRACK it clears the miss run. A miss counts only in
TRACK, where the fourth loses the lock and keeps the correction (R138, R140, R141, R142). -/
def Obligations.TrackerLocksAndLoses : Prop :=
  ∀ (p : Path) (e : Int),
    let gain : Int := if p.tracker = .acquire then 128 else 32
    let step : Int := if 0 ≤ e then (e * gain + 128) / 256 else -((-e * gain + 128) / 256)
    let c := max (-960) (min 960 (p.correction + step))
    let q : Path := { p with correction := c, limit := decide (c = 960 ∨ c = -960) }
    (p.tracker = .acquire → -16 ≤ e → e ≤ 16 → p.goodRun = 2 →
      p.accept e = { q with tracker := .track, goodRun := 0, missRun := 0 }) ∧
    (p.tracker = .acquire → -16 ≤ e → e ≤ 16 → p.goodRun < 2 → p.accept e = { q with goodRun := p.goodRun + 1 }) ∧
    (p.tracker = .acquire → e < -16 ∨ 16 < e → p.accept e = { q with goodRun := 0 }) ∧
    (p.tracker = .track → p.accept e = { q with missRun := 0 }) ∧
    (p.tracker = .acquire → p.miss = p) ∧
    (p.tracker = .track → p.missRun = 3 → p.miss = { p with tracker := .acquire, goodRun := 0, missRun := 0 }) ∧
    (p.tracker = .track → p.missRun < 3 → p.miss = { p with missRun := p.missRun + 1 })

/-- A completed CHECK or TRACK applies each entry, in listen-set order, to the record of its pair when its window was
placed from a path, it was not dropped, and the microphone is UP: the last result is written; a FOUND acts as an
accept with the error against the present effective time of flight, a LOW_PNR or OUTSIDE_GATE as a miss, another
verdict as neither. Every zone that draws a term from a path whose correction changed, and every zone below one, is
solved; no set changes. The verdicts move the DEAF runs of the microphones in use, those made UNUSED during the flight
passed over (log entry 50), and a run that reaches 8 trips, with every other condition at its threshold (log entry
33). The notices are MEASURE_DONE, PATH_LOCK for each path whose tracker state changed, in listen-set order, MIC_DOWN,
in listen-set order, and ZONE_STATUS. The arbiter and the scheduler then consider the queue (R68, R71, R122, R134,
R135, R136, R137, R143, R144, R155, R156, R157). -/
def Obligations.TrackingResultsAreApplied : Prop :=
  ∀ (rs : List Reading) (loop : List (Nat × Nat)) (s : State) (f : Flight), s.flight = some f → f.phase = .analyse →
    f.kind = .check ∨ f.kind = .track → (f.listen.map fun l => l.mic).Nodup →
    (s.paths.map fun p => (p.zone, p.mic)).Nodup →
    let es := f.listen.map (s.analyse f rs)
    f.attempt ≠ 1 ∨ f.noRetry = true ∨ (∃ e ∈ es, e.verdict = .found) ∨ (∀ e ∈ es, e.verdict ≠ .lowPnr) →
    let moved := fun (t : State) m =>
      (s.path f.zone m).map (fun p => p.correction) != (t.path f.zone m).map fun p => p.correction
    let draws := fun (t : State) d => (s.zone d).cfg.lead.any fun l => (s.zone d).cfg.mic.any fun m =>
      (d == f.zone || l == f.zone) && moved t m
    let runs := fun (x : Mic) (l : Listen) => if l.unused = true then x.deaf else
      match (s.analyse f rs l).verdict with
      | .lowPnr => if x.cfg.enables.deaf then min 8 (x.deaf + 1) else x.deaf
      | .found | .outsideGate | .implausible => 0
      | _ => x.deaf
    let locks := fun (t : State) (l : Listen) => match s.path f.zone l.mic, t.path f.zone l.mic with
      | some p, some q => match p.tracker, q.tracker with
        | .acquire, .track => [Notice.pathLock f.zone l.mic true .acquire .track 3 q.correction q.limit
            (q.last.bind fun x => x.error)]
        | .track, .acquire => [.pathLock f.zone l.mic false .track .acquire 4 q.correction q.limit none]
        | _, _ => []
      | _, _ => []
    let causes := fun (t : State) (m : Nat) => (⟨(t.mic m).latched.silent && !(s.mic m).latched.silent,
      (t.mic m).latched.overload && !(s.mic m).latched.overload, (t.mic m).latched.stuck && !(s.mic m).latched.stuck,
      (t.mic m).latched.deaf && !(s.mic m).latched.deaf⟩ : Conditions)
    let falls := fun (t : State) (l : Listen) => if (s.mic l.mic).down = false ∧ (t.mic l.mic).down = true then
      [Notice.micDown l.mic (causes t l.mic) (t.mic l.mic).ambient (t.mic l.mic).silentMs (t.mic l.mic).clip
        (t.mic l.mic).ident (t.mic l.mic).deaf (s.paths.countP fun p => p.mic == l.mic)
        ((List.range 48).countP fun z => (s.zone z).cfg.active && (s.zone z).cfg.mic == some l.mic)] else []
    ∃ t ds, exec (.analyseEnd rs loop) s = .next t ∧
      (let u : State := { s with
         zones := t.zones, paths := t.paths, mics := t.mics, flight := none, due := s.dueAfter f
         link := s.link.noted (.measureDone (f.done .complete ds none none) :: (f.listen.flatMap (locks t) ++
           f.listen.flatMap (falls t) ++ t.statusNotices fun z => (s.zone z).status)) }
       t = u.settleQueue.settleTx) ∧
      ds.map (fun d => { d with effect := .none }) = es ∧
      (∀ p ∈ s.paths, ∀ l ∈ f.listen, p.zone = f.zone → p.mic = l.mic →
        let e := s.analyse f rs l
        let err := if e.verdict = .found then e.tof.map fun x => x - s.tofEff p else none
        let q : Path := { p with last := some ⟨e.verdict, e.arrival, e.pnr, err, s.clock.now / 48000⟩ }
        (l.window ≠ .whole → l.standing ≠ .dropped → (s.mic l.mic).up = true →
          (e.verdict = .found → q.accept (err.getD 0) ∈ t.paths ∧ { e with effect := .corrected } ∈ ds) ∧
          (e.verdict = .lowPnr ∨ e.verdict = .outsideGate → q.miss ∈ t.paths ∧
            { e with effect := if p.tracker = .track then .missCounted else .none } ∈ ds) ∧
          (e.verdict = .implausible ∨ e.verdict = .masked → q ∈ t.paths ∧ e ∈ ds)) ∧
        (l.window = .whole ∨ l.standing = .dropped ∨ (s.mic l.mic).up = false → p ∈ t.paths ∧ e ∈ ds)) ∧
      (∀ p ∈ s.paths, p.zone ≠ f.zone ∨ p.mic ∉ f.listen.map (fun l => l.mic) → p ∈ t.paths) ∧
      t.paths.map (fun p => (p.zone, p.mic, p.dist, p.origin)) = s.paths.map (fun p => (p.zone, p.mic, p.dist, p.origin)) ∧
      (∀ m, m < 16 → m ∉ f.listen.map (fun l => l.mic) → t.mic m = s.mic m) ∧
      (∀ l ∈ f.listen, l.mic < 16 → (s.mic l.mic).cfg.inUse = false → t.mic l.mic = s.mic l.mic) ∧
      (∀ l ∈ f.listen, l.mic < 16 → (s.mic l.mic).cfg.inUse = true →
        let x := s.mic l.mic
        let y : Mic := { x with deaf := runs x l }
        let trips : Conditions := ⟨x.cfg.enables.silent && x.silentMs == 10000 && !x.latched.silent,
          x.cfg.enables.overload && x.clip == 32 && !x.latched.overload,
          x.cfg.enables.stuck && x.ident == 4800 && !x.latched.stuck,
          x.cfg.enables.deaf && y.deaf == 8 && !x.latched.deaf⟩
        t.mic l.mic = if trips = ⟨false, false, false, false⟩ then y else
          { y with down := true, latched := ⟨x.latched.silent || trips.silent, x.latched.overload || trips.overload,
                                             x.latched.stuck || trips.stuck, x.latched.deaf || trips.deaf⟩ }) ∧
      s.ZonesMoved t ∧ (∀ d, (t.zone d).eq = (s.zone d).eq) ∧
      (s.frozen = false → chainLaw (fun d => (s.zone d).cfg) → ∀ d, d < 48 → (s.zone d).cfg.active = true →
        s.below (draws t) 48 d = true → t.Solved (s.zone d).target d) ∧
      (∀ d, s.below (draws t) 48 d = false ∨ s.frozen = true → t.stored d = s.stored d ∧
        (t.zone d).running = (s.zone d).running ∧ (t.zone d).transition = (s.zone d).transition) ∧
      t = { s with zones := t.zones, paths := t.paths, mics := t.mics, queue := t.queue, due := t.due, flight := t.flight,
                   link := t.link }

/-! ### Start-up, resets and settings -/

/-- Start-up without a valid image leaves every record at its start-up value, the link speed the straps select and the
sampled line levels: those from outside on lines 0 and 5, and on lines 1 to 4 those that the part drives, low on line 4
alone. With a valid image it takes the image's settings, lines, sensors, microphones, zones and paths; every region
publishes the default values in DEFAULT; every ACTIVE zone is solved, stands STEADY at its target with its first set, and
begins its fade-in unless it is effectively muted or the audio frame clock is absent; tracked zones take due times;
supervision is INACTIVE or WATCHING; nothing is noticed; after the nine recovery clocks and stop condition of the sensor
bus the first enabled sensor is polled (R48, R60, R75, R88, R98, R161, R170, R180, R183, R184, R188). The queue of pending
commands, the inputs, the presence of the audio frame clock and the stored image are outside what start-up sets (log
entries 37 and 40). -/
def Obligations.StartUpTakesStartUpValues : Prop :=
  ∀ (strap0 strap1 : Bool) (levels : BitVec 6) (intact : Bool) (s : State),
    let speed : LinkSpeed := if strap1 then (if strap0 then .b3000000 else .b921600)
      else (if strap0 then .b460800 else .b115200)
    let image := s.store.image.bind fun x => if intact = true ∧ x.check = crc32 (Config.imageBytes x.contents)
      then some x.contents else none
    let sampled := fun l => if l = 0 ∨ l = 5 then levels.getLsbD l else l != 4
    (image = none → ∃ t, exec (.startUp strap0 strap1 levels intact) s = .next t ∧
      (∀ l, l < 6 → t.line l = ⟨⟨false, false, true, false⟩, sampled l, 0⟩) ∧
      t = { State.reset with
        pending := s.pending, inputs := s.inputs, clock := ⟨0, s.clock.audio, 0, 0⟩, pins := ⟨strap0, strap1, levels⟩
        link := { speed := speed }, lines := t.lines, store := ⟨s.store.image, false, false, none⟩ }) ∧
    (∀ im, image = some im → ∃ t, exec (.startUp strap0 strap1 levels intact) s = .next t ∧
      (∀ l, l < 6 → t.line l = ⟨tget im.lines l, sampled l, 0⟩) ∧
      (∀ r, r < 8 → t.region r = ⟨.deflt, im.globals.defTemp, im.globals.defHum⟩) ∧
      (∀ m, m < 16 → t.mic m = { cfg := tget im.mics m }) ∧
      (∀ n, n < 8 → (t.sensor n).cfg = tget im.sensors n ∧ (t.sensor n).reading = none ∧ (t.sensor n).fails = 0 ∧
        (t.sensor n).state = if (tget im.sensors n).enabled then .stale else .off) ∧
      (let first := (List.range 8).find? fun n => (tget im.sensors n).enabled
       t.bus = ⟨first.map fun n => ⟨n, (tget im.sensors n).addr, false, .command, false⟩, first.getD 7,
         List.replicate 9 .recoveryClock ++ [.stop]⟩) ∧
      t.paths = (im.paths.map fun p => { zone := p.zone, mic := p.mic, dist := p.dist, origin := p.origin }) ∧
      (∀ z, z < 48 →
        let c := tget im.zones z
        (c.active = false → t.zone z = {} ∧ t.dueAt z = none) ∧
        (c.active = true → (t.zone z).cfg = c ∧ (t.zone z).hostMute = tget im.hostMutes z ∧
          (t.zone z).eq = { bands := tget im.bands z, current := ⟨tget im.bands z, t.shelf z⟩ } ∧
          (chainLaw im.zoneCfg → t.Solved 0 z) ∧ (t.zone z).running = (t.zone z).target ∧
          (t.zone z).transition = .steady ∧ (t.zone z).fade = 0 ∧
          (t.zone z).stage = (if tget im.hostMutes z = true ∨ t.muteAll = true ∨ s.clock.audio = false then .closed
            else .fadingIn) ∧
          t.dueAt z = if c.tracking then some (c.interval * 48000) else none)) ∧
      t = { State.reset with
        pending := s.pending, inputs := s.inputs, clock := ⟨0, s.clock.audio, 0, 0⟩, pins := ⟨strap0, strap1, levels⟩
        globals := im.globals
        link := { speed := speed, supervision := if im.globals.supTime = 0 then .inactive else .watching }
        lines := t.lines, store := ⟨s.store.image, true, true, none⟩, zones := t.zones, paths := t.paths
        mics := t.mics, sensors := t.sensors, bus := t.bus, regions := t.regions, due := t.due })

/-- RESET refuses another byte than 1 and 2. RESET FULL discards the waiting commands and lets no more be taken, and is
answered OK. RESET ALIGN empties the queue with no notice for the entries, ends a flight in QUIET_WAIT and aborts another
with ABORTED_RESET, returns every path to correction 0 and ACQUIRE and every DOWN microphone to UP, leaves any lapse,
restarts the due times and recomputes every target. RESUME does nothing but in LAPSED_FREEZE, where it leaves the freeze
and recomputes every ACTIVE zone. ZONE_STATUS follows for each zone whose status differs from the held one, or outside a
freeze from the one it had, and the arbiter and the scheduler consider the queue. Configuration, regions, sensors,
equalisers, mute stages and the store are kept (R23, R71, R74, R76, R107, R126, R127, R161, R181, R190). -/
def Obligations.ResetsAndResume : Prop :=
  ∀ (tag x : Byte) (s : State), s.handlerFree →
    let c : RxCommand := ⟨0x02#8, tag, [x]⟩
    let ok : Answer := ⟨.ok, [], .none⟩
    let both := fun (t : State) => exec (.resetFull tag [x]) s = .next t ∧ exec (.resetAlign tag [x]) s = .next t
    let lapsed := s.link.supervision = .lapsedNote ∨ s.link.supervision = .lapsedFreeze
    let left : Link := { s.link with
      supervision := if s.globals.supTime = 0 then .inactive else .watching, timerFrom := s.clock.now }
    let solved := fun (t : State) => chainLaw (fun d => (s.zone d).cfg) →
      ∀ d, d < 48 → (s.zone d).cfg.active = true → t.Solved (s.zone d).target d
    let was := fun d => if s.frozen then (s.zone d).held else (s.zone d).status
    (x ≠ 1#8 → x ≠ 2#8 → both (s.answered c ⟨.badValue, [], .none⟩)) ∧
    (x = 1#8 → both { s with link := { { s.link with resetting := true }.answered c ok with commands := [] } }) ∧
    (x = 2#8 → ∃ t, both t ∧
      (∃ ns, t.link = ((if lapsed then left else s.link).noted ns).answered c ok) ∧
      t.paths = (s.paths.map fun p => { zone := p.zone, mic := p.mic, dist := p.dist, origin := p.origin }) ∧
      (∀ m, m < 16 → t.mic m = if (s.mic m).state = .down then
        { s.mic m with down := false, latched := ⟨false, false, false, false⟩, silentMs := 0, clip := 0, ident := 0,
                       deaf := 0 } else s.mic m) ∧
      (∀ z d, z < 48 → s.dueAt z = some d → t.dueAt z = some (s.clock.now + (s.zone z).cfg.interval * 48000)) ∧
      ((∀ z, z < 48 → (s.zone z).cfg.active = true → 1 ≤ (s.zone z).cfg.interval) → t.queue = []) ∧
      (∀ e ∈ t.queue, e.cls = .auto) ∧
      (∀ f, s.flight = some f → f.phase = .quietWait → f.pendingOutcome = none →
        (∀ z, z < 48 → (s.zone z).cfg.active = true → 1 ≤ (s.zone z).cfg.interval) → t.flight = none) ∧
      (∀ f, s.flight = some f → f.phase ≠ .quietWait →
        t.flight = some (if f.pendingOutcome.isSome then f else
          { f.discard with pendingOutcome := some .abortedReset, phase := .rampOut })) ∧
      s.ZonesMoved t ∧ (∀ z, (t.zone z).eq = (s.zone z).eq) ∧ solved t ∧
      t = { s with zones := t.zones, paths := t.paths, queue := t.queue, due := t.due, flight := t.flight,
                   mics := t.mics, link := t.link } ∧
      (let h := ({ s.taking c with queue := [] } : State).abortWhere (fun _ => true) false .abortedReset
       let l : Link := if lapsed then { h.link with supervision := left.supervision, timerFrom := s.clock.now } else h.link
       let u : State := { h with
         zones := t.zones, paths := t.paths, mics := t.mics, link := l.noted (t.statusNotices was)
         due := tmap (fun z d => d.map fun _ => s.clock.now + (s.zone z).cfg.interval * 48000) h.due }
       t = u.settleQueue.replied c ok)) ∧
    (s.frozen = false → exec (.resume tag []) s = .next (s.answered ⟨0x03#8, tag, []⟩ ok)) ∧
    (s.frozen = true → ∃ t, exec (.resume tag []) s = .next t ∧
      (∃ ns, t.link = (left.noted ns).answered ⟨0x03#8, tag, []⟩ ok) ∧
      s.ZonesMoved t ∧ (∀ z, (t.zone z).eq = (s.zone z).eq) ∧ solved t ∧
      (∀ f, s.flight = some f → t.flight = some f) ∧
      t = { s with zones := t.zones, queue := t.queue, due := t.due, flight := t.flight, link := t.link } ∧
      (let h := s.taking ⟨0x03#8, tag, []⟩
       let l : Link := { h.link with supervision := left.supervision, timerFrom := s.clock.now }
       let u : State := { h with zones := t.zones, link := l.noted (t.statusNotices was) }
       t = u.settleQueue.replied ⟨0x03#8, tag, []⟩ ok))

/-- GLOBAL_SET refuses another supervision time than the five and another action than the two. Otherwise it stores all
thirteen settings, the first eleven limited to their ranges, and names the limited ones. Regions in DEFAULT publish
new defaults, a reading that is at its new limit (log entry 35) or a hold that is past it expires (log entry 25), a
region that loses a FRESH sensor so is re-evaluated under the new deadband, which changes no other region, due times
follow a new poll interval, and changed supervision settings restart the timer, also where only the action changed
(log entry 42), but for a freeze. A quiet wait is left where the new ceiling lets it, or else ends MASKED where the
new defer limit has passed, the level taken first (log entry 25); another flight goes on. SENSOR_STATE, REGION_STATE
and ZONE_STATUS are raised in this order, each in ascending order (log entry 25), and the arbiter and the scheduler
consider the queue (R46, R51, R52, R54, R56, R71, R114, R181, R185). -/
def Obligations.GlobalSetStoresSettings : Prop :=
  ∀ (tag : Byte) (b : List Byte) (s : State), s.handlerFree → b.length = 17 →
    let c : RxCommand := ⟨0x04#8, tag, b⟩
    let accepted_ := byteAt b 15 ∈ [0, 1, 2, 5, 10] ∧ byteAt b 16 < 2
    let g : Globals := {
      order := max 13 (min 16 (byteAt b 0)), repeats := max 1 (min 16 (byteAt b 1))
      level := max (-60) (min (-20) (sbyteAt b 2)), pnrMin := max 60 (min 400 (u16At b 3))
      ceiling := max (-60) (min 0 (sbyteAt b 5)), defer := max 5 (min 600 (u16At b 6))
      defTemp := max (-300) (min 600 (s16At b 8)), defHum := min 100 (byteAt b 10)
      poll := max 2 (min 60 (byteAt b 11)), hold := max 60 (min 3600 (u16At b 12)), deadband := min 20 (byteAt b 14)
      supTime := byteAt b 15, freeze := byteAt b 16 == 1 }
    let items := [(g.order != byteAt b 0, 1), (g.repeats != byteAt b 1, 2), (g.level != sbyteAt b 2, 3),
      (g.pnrMin != u16At b 3, 4), (g.ceiling != sbyteAt b 5, 5), (g.defer != u16At b 6, 6), (g.defTemp != s16At b 8, 7),
      (g.defHum != byteAt b 10, 8), (g.poll != byteAt b 11, 9), (g.hold != u16At b 12, 10), (g.deadband != byteAt b 14, 11)]
    let clamps : List ClampItem := (items.filter fun x => x.1).map fun x => ⟨none, x.2⟩
    (¬ accepted_ → exec (.globalSet tag b) s = .next (s.answered c ⟨.badValue, [], .none⟩)) ∧
    (accepted_ → ∃ t, exec (.globalSet tag b) s = .next t ∧ t.globals = g ∧
      (∃ ns, t.link =
        ((if (g.supTime = s.globals.supTime ∧ g.freeze = s.globals.freeze) ∨ s.link.supervision = .lapsedFreeze then s.link
          else { s.link with supervision := if g.supTime = 0 then .inactive else .watching, timerFrom := s.clock.now }).noted
            ns).answered c ⟨if clamps = [] then .ok else .clamped, clamps, .none⟩) ∧
      (∀ r, r < 8 → s.freshIn r = [] →
        ((s.region r).state = .deflt → g.defTemp ≠ s.globals.defTemp ∨ g.defHum ≠ s.globals.defHum →
          t.region r = ⟨.deflt, g.defTemp, g.defHum⟩) ∧
        (∀ since, (s.region r).state = .held since → g.hold ≠ s.globals.hold →
          since + g.hold * 48000 < s.clock.now → t.region r = ⟨.deflt, g.defTemp, g.defHum⟩)) ∧
      (g.poll ≠ s.globals.poll → ∀ n, n < 8 →
        (∀ x, (s.sensor n).state = .fresh → (s.sensor n).reading = some x → x.time + 3 * g.poll * 48000 ≤ s.clock.now →
          (t.sensor n).state = .stale) ∧
        (∀ p, (s.sensor n).cfg.enabled = true → (s.sensor n).lastPoll = some p → s.bus.poll ≠ none →
          (t.sensor n).due = some (max s.clock.now (p + g.poll * 48000)))) ∧
      (∀ f, s.flight = some f → f.phase ≠ .quietWait → t.flight = some f) ∧
      (let climate := g.poll != s.globals.poll || g.hold != s.globals.hold || g.defTemp != s.globals.defTemp ||
         g.defHum != s.globals.defHum
       let moved := fun (x : Sensor) => if x.cfg.enabled = true ∧ x.lastPoll.isSome = true then
         { x with due := some (max s.clock.now (x.lastPoll.getD 0 + g.poll * 48000)) } else x
       let past := fun (x : Sensor) => x.state == .fresh &&
         x.reading.any fun y => y.time + 3 * g.poll * 48000 ≤ s.clock.now
       let v : State := { s with
         globals := g
         sensors := if g.poll = s.globals.poll then s.sensors else
           tmap (fun _ x => if past x then { moved x with state := .stale } else moved x) s.sensors }
       (climate = false → t.sensors = s.sensors ∧ t.bus = s.bus ∧ t.regions = s.regions) ∧
       (climate = true → t.sensors = v.startPoll.sensors ∧ t.bus = v.startPoll.bus ∧
         ∀ r, r < 8 →
           let loses := g.poll != s.globals.poll &&
             (List.range 8).any fun n => past (s.sensor n) && (s.sensor n).cfg.region == r
           let x := if loses then (v.reevaluate r).region r else s.region r
           let ends := match x.state with
             | .deflt => true
             | .held since => decide (since + g.hold * 48000 < s.clock.now)
             | _ => false
           t.region r = if ends then ⟨.deflt, g.defTemp, g.defHum⟩ else x)) ∧
      s.FollowsRegions t ∧
      t = { s with globals := g, zones := t.zones, sensors := t.sensors, bus := t.bus, regions := t.regions,
                   queue := t.queue, due := t.due, flight := t.flight, link := t.link } ∧
      (let heard := fun l : Listen => l.standing == .heard
       let quiet := fun l : Listen => decide ((s.mic l.mic).ambient ≤ g.ceiling * 10)
       let h : State := { s.taking c with globals := g }
       let v := match s.flight with
         | none => h
         | some f =>
           if f.phase ≠ Phase.quietWait then h
           else if f.listen.any (fun l => heard l && quiet l) then { h with flight := some { f with
             phase := .leadIn, ramp := 0, elapsed := 0, quietSince := none, listen := f.listen.map fun l =>
               if heard l = true ∧ quiet l = false then { l with standing := .masked } else l } }
           else if f.quietSince.any (fun since => since + g.defer * 48000 < s.clock.now) then
             h.ended { f with listen := f.listen.map fun l => if heard l then { l with standing := .masked } else l } .masked
           else h
       let watched := (g.supTime = s.globals.supTime ∧ g.freeze = s.globals.freeze) ∨ s.link.supervision = .lapsedFreeze
       let l : Link := if watched then v.link else
         { v.link with supervision := if g.supTime = 0 then .inactive else .watching, timerFrom := s.clock.now }
       let u : State := { v with
         zones := t.zones, sensors := t.sensors, bus := t.bus, regions := t.regions
         link := l.noted ((List.range 8).flatMap (s.sensorChange t) ++ (List.range 8).flatMap (s.regionChange t) ++
           t.statusNotices fun d => (s.zone d).status) }
       t = u.settleQueue.replied c ⟨if clamps = [] then .ok else .clamped, clamps, .none⟩))

/-- LINE_SET refuses a line above 5 and another value than 0 and 1, and otherwise writes the line's mode, direction, output
value and notice enable. A change of taken level that LINE_LEVEL_CHANGE takes, on a line that the part drives only the one
it drives or that three samples agreed on, is recorded, and raises LINE_CHANGE for a GENERAL input with its notice enabled;
the level from outside is then the one taken, and a level equal to the taken one changes nothing (log entry 41). What
follows for MUTE_ALL and HOLD follows: the stages of the zones whose effective mute changed turn, the waiting entries of
newly muted zones are removed with their REMOVED notices and their flight aborted, LOOP_INT excepted, in QUIET_WAIT at once,
and a newly asserted HOLD aborts a flight or, in ANALYSE, bars its retry. The arbiter and the scheduler then consider the
queue (R15, R16, R85, R101, R105, R108, R125, R126, R127, R128, R182, R183). A stage in a retirement fade-out does not turn
(log entry 28). -/
def Obligations.LinesAreWrittenAndTaken : Prop :=
  ∀ (s : State),
    let aborts := fun (h : State) =>
      let muted := fun z => h.effMuted z && !s.effMuted z
      let v := (h.abortWhere muted true .abortedMute).removeEntries fun e => muted e.zone && e.kind != .loopInt
      if h.holdOn = true ∧ s.holdOn = false then v.abortHold else v
    let follows := fun (t : State) =>
      (∀ z, z < 48 → t.zone z = { s.zone z with stage := (
        if (s.zone z).retiring then (s.zone z).stage
        else if t.effMuted z && !s.effMuted z && ((s.zone z).stage == .opened || (s.zone z).stage == .fadingIn) then .fadingOut
        else if !t.effMuted z && s.effMuted z && s.clock.audio &&
            ((s.zone z).stage == .closed || (s.zone z).stage == .fadingOut) then .fadingIn
        else (s.zone z).stage) }) ∧
      (∀ e ∈ t.queue, t.effMuted e.zone = true → s.effMuted e.zone = false → e.kind = .loopInt) ∧
      (∀ f, s.flight = some f → f.kind ≠ .loopInt → f.pendingOutcome = none → f.phase ≠ .quietWait →
        (t.effMuted f.zone = true → s.effMuted f.zone = false →
          t.flight = some { f.discard with pendingOutcome := some .abortedMute, phase := .rampOut }) ∧
        (t.holdOn = true → s.holdOn = false → f.phase ≠ .analyse →
          t.flight = some { f.discard with pendingOutcome := some .abortedHold, phase := .rampOut }) ∧
        (t.holdOn = true → s.holdOn = false → f.phase = .analyse → t.flight = some { f with noRetry := true }))
    (∀ tag l mode dir out note : Byte, s.handlerFree →
      let c : RxCommand := ⟨0x20#8, tag, [l, mode, dir, out, note]⟩
      let bits := mode.toNat < 2 ∧ dir.toNat < 2 ∧ out.toNat < 2 ∧ note.toNat < 2
      (6 ≤ l.toNat ∨ ¬ bits →
        exec (.lineSet tag [l, mode, dir, out, note]) s = .next (s.answered c ⟨.badValue, [], .none⟩)) ∧
      (l.toNat < 6 → bits → ∃ t, exec (.lineSet tag [l, mode, dir, out, note]) s = .next t ∧
        s.link.Answers t.link c ⟨.ok, [], .none⟩ ∧
        t.line l.toNat = { s.line l.toNat with cfg := ⟨mode == 1#8, dir == 1#8, out == 1#8, note == 1#8⟩ } ∧
        (∀ k, k ≠ l.toNat → t.line k = s.line k) ∧ follows t ∧
        t = { s with lines := t.lines, zones := t.zones, queue := t.queue, due := t.due, flight := t.flight,
                     link := t.link } ∧
        t = (aborts { s.taking c with lines := t.lines, zones := t.zones }).settleQueue.replied c ⟨.ok, [], .none⟩)) ∧
    (∀ (l : Fin 6) (high : Bool),
      let taken := s.lineDrive l = none ∨ s.lineDrive l = some high ∨ 3 ≤ (s.line l).agree
      ((s.line l).taken = high ∨ ¬ taken → exec (.lineLevelChange l high) s = .next s) ∧
      ((s.line l).taken ≠ high → taken → ∃ t, exec (.lineLevelChange l high) s = .next t ∧
        t.line l = ⟨(s.line l).cfg, high, 0⟩ ∧ (∀ k, k ≠ l.val → t.line k = s.line k) ∧
        (∀ k, k < 6 → t.pins.levels.getLsbD k =
          if k = l.val ∧ s.lineDrive l = none then high else s.pins.levels.getLsbD k) ∧ follows t ∧
        t = { s with pins := { s.pins with levels := t.pins.levels }, lines := t.lines, zones := t.zones, queue := t.queue,
                     due := t.due, flight := t.flight, link := t.link } ∧
        (let v := aborts { s with pins := t.pins, lines := t.lines, zones := t.zones }
         let u : State := { v with
           link := v.link.noted (if (s.line l).cfg.general = true ∧ (s.line l).cfg.output = false ∧ (s.line l).cfg.notice = true then
             [.lineChange l high (s.clock.now / 48000)] else []) }
         t = u.settleQueue.settleTx))) ∧
    (∀ f, s.flight = some f →
      (f.kind = .loopInt → s.abortHold = s) ∧
      (f.kind ≠ .loopInt → f.phase = .analyse → s.abortHold = { s with flight := some { f with noRetry := true } }) ∧
      (f.kind ≠ .loopInt → f.phase ≠ .analyse → s.abortHold = s.abortWhere (fun _ => true) true .abortedHold))

/-! ### The settings store -/

/-- STORE_SAVE is refused BUSY while an operation runs, and otherwise takes the snapshot of the present moment and makes the
image INVALID. Its end writes the image with its CRC-32 and is VALID, or leaves none where the read back differs. STORE_LOAD
is refused BUSY while an operation runs, and otherwise begins to read. Each end raises STORE_DONE. What the store holds
while and after a write fails is the model's (log entry 16) (R186, R187). -/
def Obligations.StoreOperationsRun : Prop :=
  ∀ (tag : Byte) (s : State),
    let save : RxCommand := ⟨0x24#8, tag, []⟩
    let load : RxCommand := ⟨0x25#8, tag, []⟩
    let accepted_ : Answer := ⟨.accepted, [], .none⟩
    (s.handlerFree → s.store.op ≠ none →
      exec (.storeSave tag []) s = .next (s.answered save ⟨.busy, [], .none⟩) ∧
      exec (.storeLoad tag []) s = .next (s.answered load ⟨.busy, [], .none⟩)) ∧
    (s.handlerFree → s.store.op = none →
      exec (.storeLoad tag []) s = .next (({ s with store := { s.store with op := some .load } } : State).answered load accepted_) ∧
      ∃ im, exec (.storeSave tag []) s =
          .next (({ s with store := ⟨none, false, s.store.loaded, some (.save im)⟩ } : State).answered save accepted_) ∧
        im.globals = s.globals ∧ (∀ l, l < 6 → tget im.lines l = (s.line l).cfg) ∧
        (∀ n, n < 8 → tget im.sensors n = (s.sensor n).cfg) ∧ (∀ m, m < 16 → tget im.mics m = (s.mic m).cfg) ∧
        (∀ z, z < 48 → tget im.zones z = (s.zone z).cfg ∧ tget im.hostMutes z = (s.zone z).hostMute ∧
          tget im.bands z = (s.zone z).eq.bands) ∧
        im.paths = s.paths.map fun p => ⟨p.zone, p.mic, p.dist, p.origin⟩) ∧
    (∀ im, s.store.op = some (.save im) →
      exec (.storeSaveComplete true) s = .next { s with
        store := ⟨some ⟨im, crc32 (Config.imageBytes im)⟩, true, s.store.loaded, none⟩
        link := (s.link.raise (.storeDone true .ok (some im.paths.length))).transmit } ∧
      exec (.storeSaveComplete false) s = .next { s with
        store := ⟨none, false, s.store.loaded, none⟩
        link := (s.link.raise (.storeDone true .writeFault none)).transmit })

/-- A STORE_LOAD whose image is not read intact or fails its check raises STORE_DONE with CHECK_FAIL and changes
nothing else but the image state. A valid image replaces the configuration in one event after an ALIGN reset: the
flight is aborted with ABORTED_RESET, the queue emptied, any lapse left; settings and lines are the image's, and the
taken levels stay; an unchanged sensor keeps its state and reading, a changed one is as SENSOR_SET leaves it; the
regions whose FRESH sensors changed are re-evaluated, and those in DEFAULT publish the new defaults; no microphone
stays DOWN; every path starts in ACQUIRE. A zone the image does not hold ACTIVE is retired, a newly ACTIVE one is
activated, and one that stays ACTIVE takes its fields, its stage turning with its effective mute before its new target
and set reach it. STORE_DONE, MEASURE_DONE, SENSOR_STATE, REGION_STATE and ZONE_STATUS are raised in this order (R13,
R18, R23, R44, R60, R71, R107, R161, R166, R174, R181, R187). The order of the mute's effects, and which deadband
holds for the regions, are the model's reading (log entry 17), and so are the marks of microphones made UNUSED (log
entry 50), that a changed sensor counts as never polled (log entry 26), that a stage in a retirement fade-out does not
turn (log entry 28) that a change of the supervision action alone restarts the timer (log entry 42) and that the image
state becomes VALID (log entry 59). -/
def Obligations.StoreLoadReplacesConfiguration : Prop :=
  ∀ (intact : Bool) (s : State), s.store.op = some .load →
    let now := s.clock.now
    let image := s.store.image.bind fun x => if intact = true ∧ x.check = crc32 (Config.imageBytes x.contents)
      then some x.contents else none
    let turned := fun (x : Zone) (st : MuteStage) (was is : Bool) =>
      if x.retiring then st
      else if is && !was && (st == .opened || st == .fadingIn) then MuteStage.fadingOut
      else if !is && was && s.clock.audio && (st == .closed || st == .fadingOut) then .fadingIn else st
    (image = none → exec (.storeLoadComplete intact) s = .next { s with
      store := ⟨s.store.image, false, s.store.loaded, none⟩
      link := (s.link.raise (.storeDone false .checkFail none)).transmit }) ∧
    (∀ im, image = some im → (∀ f, s.flight = some f → f.pendingOutcome ≠ none → f.phase = .rampOut) →
      let g := im.globals
      let muteAll := !(tget im.lines 0).general && !(s.line 0).taken
      let moved := fun (x : Sensor) => if g.poll ≠ s.globals.poll ∧ x.cfg.enabled = true ∧ x.lastPoll.isSome = true then
        { x with due := some (max now (x.lastPoll.getD 0 + g.poll * 48000)) } else x
      let sensor := fun (n : Nat) (x : Sensor) =>
        let c := tget im.sensors n
        if c.enabled = false then (if x.cfg.enabled then ⟨c, .off, none, 0, none, none, none⟩ else { x with cfg := c })
        else if x.cfg.enabled = false ∨ x.cfg.addr ≠ c.addr then ⟨c, .stale, none, 0, none, some now, none⟩
        else { moved x with cfg := c }
      let voids := fun n => decide (n < 8) && (s.sensor n).cfg.enabled &&
        (!(tget im.sensors n).enabled || (s.sensor n).cfg.addr != (tget im.sensors n).addr)
      let poll := match s.bus.poll with
        | none => none
        | some p => if voids p.sensor then
            (match p.phase with | .wait _ => none | _ => some { p with voided := true }) else some p
      let v : State := { s with
        globals := { g with deadband := if Config.climateFirst then g.deadband else s.globals.deadband }
        sensors := tmap sensor s.sensors, bus := { s.bus with poll := poll } }
      let touched := fun r => (List.range 8).any fun n =>
        (s.sensor n).state == .fresh && ((v.sensor n).state != .fresh || (s.sensor n).cfg.region != (v.sensor n).cfg.region) &&
          ((s.sensor n).cfg.region == r || ((v.sensor n).state == .fresh && (v.sensor n).cfg.region == r))
      let lapsed := s.link.supervision = .lapsedNote ∨ s.link.supervision = .lapsedFreeze
      let starts := lapsed ∨ g.supTime ≠ s.globals.supTime ∨ g.freeze ≠ s.globals.freeze
      ∃ t, exec (.storeLoadComplete intact) s = .next t ∧
        t.store = ⟨s.store.image, true, s.store.loaded, none⟩ ∧ t.globals = g ∧
        (∀ l, l < 6 → t.line l = { s.line l with cfg := tget im.lines l }) ∧
        t.sensors = v.startPoll.sensors ∧ t.bus = v.startPoll.bus ∧
        (∀ r, r < 8 →
          let x := if touched r then (v.reevaluate r).region r else s.region r
          t.region r = if x.state = .deflt then ⟨.deflt, g.defTemp, g.defHum⟩ else x) ∧
        (∀ m, m < 16 →
          let c := tget im.mics m
          let kept := fun (on : Bool) (n : Nat) => if on then n else 0
          let old := if (s.mic m).cfg.inUse = true ∧ (s.mic m).down = true then
            { s.mic m with down := false, latched := ⟨false, false, false, false⟩, silentMs := 0, clip := 0, ident := 0,
                           deaf := 0 } else s.mic m
          t.mic m =
            (if old.cfg.inUse = true ∧ c.inUse = true then
              let held := if old.cfg.slot = c.slot then old
                else { old with history := [], silentMs := 0, clip := 0, ident := 0, windowPos := 0 }
              { held with cfg := c, silentMs := kept c.enables.silent held.silentMs,
                          clip := kept c.enables.overload held.clip, ident := kept c.enables.stuck held.ident,
                          deaf := kept c.enables.deaf held.deaf }
             else if old.cfg.inUse = false ∧ c.inUse = false then { old with cfg := c }
             else { cfg := c })) ∧
        t.paths = (im.paths.map fun p => { zone := p.zone, mic := p.mic, dist := p.dist, origin := p.origin }) ∧
        (∀ z, z < 48 →
          let c := tget im.zones z
          let x := s.zone z
          let y := t.zone z
          let bands := tget im.bands z
          let mute := tget im.hostMutes z
          let stage := turned x x.stage (x.hostMute || s.muteAll) (x.hostMute || muteAll)
          (x.cfg.active = false → c.active = false → y = x) ∧
          (x.cfg.active = true → c.active = false → y.cfg = {} ∧ y.hostMute = false ∧ y.target = 0 ∧ y.status = .free ∧
            y.eq.bands = [] ∧ y.eq.pendingSet = none ∧
            (stage = .closed → y.stage = .closed ∧ y.running = 0 ∧ y.transition = .steady ∧ y.retiring = false ∧
              y.eq.current = ⟨[], 0⟩ ∧ y.eq.xfade = none) ∧
            (stage ≠ .closed → y.stage = .fadingOut ∧ y.fade = x.fade ∧ y.running = x.running ∧ y.retiring = true ∧
              y.eq.current = x.eq.current ∧ y.eq.xfade = x.eq.xfade ∧
              y.transition = if x.transition = .glide then .steady else x.transition)) ∧
          (c.active = true → chainLaw im.zoneCfg → t.Solved x.target z) ∧
          (x.cfg.active = false → c.active = true → y.cfg = c ∧ y.hostMute = mute ∧ y.eq.bands = bands ∧
            (x.retiring = true → y.stage = x.stage ∧ y.running = x.running ∧ y.retiring = true) ∧
            (x.retiring = false → y.running = y.target ∧ y.transition = .steady ∧
              y.eq.current = ⟨bands, t.shelf z⟩ ∧ y.eq.xfade = none ∧ y.eq.pendingSet = none ∧
              (x.stage = .closed →
                y.stage = if mute = true ∨ muteAll = true ∨ s.clock.audio = false then .closed else .fadingIn))) ∧
          (x.cfg.active = true → c.active = true →
            let a := { x with cfg := c, hostMute := mute, target := y.target, status := y.status, missing := y.missing
                              stage := turned x stage (x.hostMute || muteAll) (mute || muteAll)
                              eq := { x.eq with bands := bands } }
            let b := if y.target = x.target then a else a.takeTarget y.target
            y = if b.retiring = true ∨ b.eq.latest = ⟨bands, t.shelf z⟩ then b else b.takeSet ⟨bands, t.shelf z⟩) ∧
          (c.active = false ∨ c.tracking = false → t.dueAt z = none)) ∧
        ((∀ z, z < 48 → (s.zone z).cfg.active = true → 1 ≤ (s.zone z).cfg.interval) →
          (∀ z, z < 48 → (tget im.zones z).active = true → 1 ≤ (tget im.zones z).interval) → t.queue = []) ∧
        (starts → t.link.supervision = (if g.supTime = 0 then .inactive else .watching) ∧ t.link.timerFrom = now) ∧
        (¬ starts → t.link.supervision = s.link.supervision ∧ t.link.timerFrom = s.link.timerFrom) ∧
        (let h := ({ s with queue := [], link := s.link.raise (.storeDone false .ok (some im.paths.length)) } :
           State).abortWhere (fun _ => true) false .abortedReset
         let was := fun z => if (s.zone z).cfg.active = false then SolverStatus.free
           else if s.frozen then (s.zone z).held else (s.zone z).status
         let l : Link := { h.link with supervision := t.link.supervision, timerFrom := t.link.timerFrom }
         let u : State := { h with
           store := t.store, globals := g, lines := t.lines, zones := t.zones, paths := t.paths, mics := t.mics
           sensors := t.sensors, bus := t.bus, regions := t.regions
           flight := h.flight.map fun f => { f with listen := f.listen.map fun x =>
             if x.mic < 16 ∧ (s.mic x.mic).cfg.inUse = true ∧ (tget im.mics x.mic).inUse = false then
               { x with unused := true } else x }
           due := tmap (fun z d =>
             let c := tget im.zones z
             if c.active = false ∨ c.tracking = false then none
             else if s.tracked z then d.map fun _ => now + (s.zone z).cfg.interval * 48000
             else some (now + c.interval * 48000)) h.due
           link := l.noted ((List.range 8).flatMap (s.sensorChange t) ++ (List.range 8).flatMap (s.regionChange t) ++
             t.statusNotices was) }
         t = u.settleQueue.settleTx))

/-! ### The control link -/

/-- While hunting the receiver looks for 0xA5 followed at once by 0x5A; once both are found it takes the two length bytes,
the kind, the tag, the body and the two check bytes, low byte first (R175, R191). A frame with a good check, a CRC-16 from
0xFFFF over its length, kind, tag and body, ends a LAPSED_NOTE and restarts the supervision timer; of kind 0x01 to 0x3F it
joins the command list, or is counted OVERRUN when 4 wait; of another kind it is counted FOREIGN. One with a bad check is
counted BAD_CHECK. A frame under assembly is abandoned and counted for a length above 1,024, a low stop bit, or more than
10 ms between bytes; a low stop bit in the hunt is not counted. A sync pair begins a frame. The counts stop at 65,535
(R176, R180). A body of more than 1,024 bytes spells no frame (log entry 38); the timeout counts from the first sync byte
(log entry 24), and its event moves the internal timebase to its moment (log entries 2 and 35). -/
def Obligations.ReceiverKeepsGoodFrames : Prop :=
  (∀ (kind tag : Byte) (body : List Byte), frameCheck kind tag body =
    ((bytes2 body.length ++ kind :: tag :: body).flatMap fun b =>
      [b.getLsbD 7, b.getLsbD 6, b.getLsbD 5, b.getLsbD 4, b.getLsbD 3, b.getLsbD 2, b.getLsbD 1, b.getLsbD 0]).foldl
      (fun (c : BitVec 16) bit => if c.msb = bit then c <<< 1 else (c <<< 1) ^^^ 0x1021#16) 0xFFFF#16) ∧
  (∀ (r : RxState) (now : Nat), r.take now none = (r, some (.frameAbandoned .lowStopBit))) ∧
  (∀ (r : RxState) (now : Nat) (x : Byte),
    (r = .hunting → r.take now (some x) = (if x = 0xA5#8 then .firstSync now else .hunting, none)) ∧
    (∀ time, r = .firstSync time → r.take now (some x) =
      if x = 0x5A#8 then (r, some .syncPairFound) else (if x = 0xA5#8 then .firstSync now else .hunting, none)) ∧
    (∀ bytes time, r = .assembling bytes time →
      let all := bytes ++ [x]
      let n := u16At all 0
      r.take now (some x) = (.assembling all now,
        if all.length = 2 ∧ 1024 < n then some (.frameAbandoned .overLength)
        else if 6 ≤ all.length ∧ all.length = n + 6 then
          some (.frameReceived (all.getD 2 0#8) (all.getD 3 0#8) ((all.drop 4).take n)
            (all.getD (n + 5) 0#8 ++ all.getD (n + 4) 0#8 : BitVec 16))
        else none))) ∧
  ∀ (s : State),
    let l := s.link
    let up := fun n : Nat => min 65535 (n + 1)
    let becomes := fun (i : Instr) (x : Link) => exec i s = .next { s with link := x }
    (∀ (kind tag : Byte) (body : List Byte) (check : BitVec 16),
      let i : Instr := .frameReceived kind tag body check
      let heard : Link := { l with
        rx := .hunting, lastGood := some s.clock.now
        timerFrom := if l.supervision = .watching ∨ l.supervision = .lapsedNote then s.clock.now else l.timerFrom
        supervision := if l.supervision = .lapsedNote then .watching else l.supervision }
      let good := frameCheck kind tag body = check
      let isCommand := 1 ≤ kind.toNat ∧ kind.toNat ≤ 0x3F
      (1024 < body.length → exec i s = .fault .illFormed) ∧
      (body.length ≤ 1024 →
        (¬ good → becomes i { l with rx := .hunting, badCheck := up l.badCheck }) ∧
        (good → isCommand → l.commands.length < 4 → becomes i { heard with commands := l.commands ++ [⟨kind, tag, body⟩] }) ∧
        (good → isCommand → 4 ≤ l.commands.length → becomes i { heard with overrun := up l.overrun }) ∧
        (good → ¬ isCommand → becomes i { heard with foreign := up l.foreign }))) ∧
    (∀ bytes time cause, l.rx = .assembling bytes time →
      becomes (.frameAbandoned cause) { l with rx := .hunting, abandoned := up l.abandoned }) ∧
    (l.rx = .hunting ∨ (∃ time, l.rx = .firstSync time) → becomes (.frameAbandoned .lowStopBit) { l with rx := .hunting }) ∧
    (∀ time, l.rx = .firstSync time ∨ (∃ bytes, l.rx = .assembling bytes time) →
      exec .interByteTimeout s = .next { s with
        link := { l with rx := .hunting, abandoned := up l.abandoned }
        clock := { s.clock with now := max s.clock.now (time + 481) } }) ∧
    (l.rx = .hunting ∨ (∃ time, l.rx = .firstSync time) →
      becomes .syncPairFound { l with rx := .assembling [] s.clock.now })

/-- At the end of a frame the transmitter sends the waiting reply, else the oldest notice, which leaves the outbox with the
dropped flag written into it and the flag cleared, else stays idle. The end of the reply to a RESET FULL is followed by
start-up (R179, R190), with the pins as they are and an image read intact (log entry 36). When the supervision timer
expires, supervision lapses by its action with a LAPSE notice, and a freeze saves the status of every ACTIVE zone and shows
HELD_FROZEN; the notice carries the whole milliseconds since the last good frame, left open where there was none since
start-up (log entry 29) (R72, R180). The lapse moves the internal timebase to its moment (log entries 2 and 35); the end of
a transmission of an idle transmitter and a lapse outside WATCHING change nothing (log entry 3). -/
def Obligations.TransmitterAndSupervision : Prop :=
  ∀ (s : State),
    let l := s.link
    let starts := l.resetting = true ∧ l.reply = none ∧ ∃ r, l.tx = some (.reply r)
    let becomes := fun (x : Link) => exec .transmitEnd s = .next { s with link := x }
    (l.tx = none → exec .transmitEnd s = .next s) ∧
    (l.tx ≠ none → starts →
      exec .transmitEnd s = exec (.startUp s.pins.strap0 s.pins.strap1 s.pins.levels true) s) ∧
    (l.tx ≠ none → ¬ starts →
      (∀ r, l.reply = some r → becomes { l with tx := some (.reply r), reply := none }) ∧
      (∀ n rest, l.reply = none → l.outbox = n :: rest →
        becomes { l with tx := some (.notice l.dropped n), outbox := rest, dropped := false }) ∧
      (l.reply = none → l.outbox = [] → becomes { l with tx := none })) ∧
    (l.supervision ≠ .watching → exec .supervisionLapse s = .next s) ∧
    (l.supervision = .watching →
      let now := max s.clock.now (l.timerFrom + s.globals.supTime * 48000 + 1)
      let note : Notice := .lapse s.globals.freeze s.globals.supTime
        (match l.lastGood with | some last => (now - last) / 48 | none => Config.lapseMs now)
      ∃ t, exec .supervisionLapse s = .next t ∧
        (∀ z, z < 48 → t.zone z = if s.globals.freeze = true ∧ (s.zone z).cfg.active = true then
          { s.zone z with held := (s.zone z).status, status := .heldFrozen } else s.zone z) ∧
        t = { s with
          clock := { s.clock with now := now }, zones := t.zones
          link := ({ l with supervision := if s.globals.freeze then .lapsedFreeze else .lapsedNote }.raise note).transmit })

/-! ### Laws that every step keeps -/

/-- The machine right after reset keeps the eight laws. -/
def Obligations.ResetKeepsTheLaws : Prop :=
  State.reset.ChainLaw ∧ State.reset.DelaysInRange ∧ State.reset.PathLaw ∧ State.reset.QueueLaw ∧ State.reset.LinkLaw ∧
    State.reset.MicLaw ∧ State.reset.SensorLaw ∧ State.reset.NamesLaw

/-- Every step keeps the law of the lead chains: the lead of every ACTIVE zone is another ACTIVE zone and comes with a
listening microphone, no chain is deeper than four levels, and so none contains a cycle; every image the part holds keeps
it too (R6, R18). -/
def Obligations.EveryStepKeepsTheChainLaw : Prop :=
  ∀ s t : State, step s = .next t → s.ChainLaw → t.ChainLaw

/-- Every step keeps targets, running delays and crossfade ends within 0 to 768,000 and a crossfade's count within 960
(R63, R66, R77, R83). -/
def Obligations.EveryStepKeepsDelaysInRange : Prop :=
  ∀ s t : State, step s = .next t → s.DelaysInRange → t.DelaysInRange

/-- Every step keeps at most 192 paths, one for any pair, each correction within −960 and +960, and no run at the count
that changes the tracker's state. Every step keeps every path naming an ACTIVE zone and a microphone in use, together with
what this rests on: a flight that no abort has reached and every waiting entry are of an ACTIVE zone, and a flight that
waits to end is in RAMP_OUT. Every image the part holds keeps the laws of its paths (R20, R106, R127, R138, R140, R142). -/
def Obligations.EveryStepKeepsThePathLaw : Prop :=
  ∀ s t : State, step s = .next t → (s.PathLaw → t.PathLaw) ∧ (s.NamesLaw → t.NamesLaw)

/-- Every step keeps at most 32 waiting entries, never two for one zone, and never one for the zone in flight (R92). -/
def Obligations.EveryStepKeepsTheQueueLaw : Prop :=
  ∀ s t : State, step s = .next t → s.QueueLaw → t.QueueLaw

/-- Every step keeps at most 4 commands and 32 notices waiting, and leaves the transmitter idle only when no reply and no
notice waits (R176, R179). -/
def Obligations.EveryStepKeepsTheLinkLaw : Prop :=
  ∀ s t : State, step s = .next t → s.LinkLaw → t.LinkLaw

/-- Every step keeps the counters of every microphone within their ranges and a microphone DOWN exactly while it has latched
causes (R152 to R156, R158). -/
def Obligations.EveryStepKeepsTheMicLaw : Prop :=
  ∀ s t : State, step s = .next t → s.MicLaw → t.MicLaw

/-- Every step keeps a sensor OFF exactly while it is disabled, a reading in every FRESH sensor, at most three counted
failures, every sensor in one of the eight regions, and on the bus the poll of an enabled sensor at its bus address, unless
it is voided (R36, R37, R41, R42, R44, R45). -/
def Obligations.EveryStepKeepsTheSensorLaw : Prop :=
  ∀ s t : State, step s = .next t → s.SensorLaw → t.SensorLaw
end

