-- ==== Sys2Proof/Laws/Audio.lean ====
section
/-! SUPPORT. Silence through the audio path: a silent stretch of a delay memory reads as silence, and cleared filters pass it
and stay cleared (R88, R91). -/

namespace Sys2Proof.Machine

open Sys2Proof.Config

@[simp] theorem quotientWord_zero (d : Nat) : quotientWord 0 d = 0 := by
  simp only [quotientWord, limitInt]; split <;> simp_all; omega

@[simp] theorem fadeGain_zero (k : Nat) : fadeGain k 0 = 0 := by simp [fadeGain]

@[simp] theorem toWord_zero : toWord 0 = 0 := by
  have h : (0 : Int) < 2 ^ (wordBits - 1) := Int.pow_pos (by decide)
  rw [toWord, if_pos ⟨by omega, h⟩]

/-- A memory that is silent from the read point on reads as silence (R88, R91). -/
theorem readMemory_silent {memory : List Int} {delay : Nat} (h : ∀ v ∈ memory.drop (delay / 768), v = 0) :
    readMemory memory delay = 0 := by
  have hs : silentFrom memory delay = true := by simpa [silentFrom, List.all_eq_true] using h
  have hg : memory.getD (delay / 768) 0 = 0 := by
    rw [List.getD_eq_getElem?_getD]
    by_cases hl : delay / 768 < memory.length
    · rw [List.getElem?_eq_getElem hl]
      exact h _ (List.mem_drop_iff_getElem.2 ⟨0, by omega, by simp⟩)
    · simp [List.getElem?_eq_none (Nat.le_of_not_lt hl)]
  unfold readMemory; split
  · exact hg
  · rfl

@[simp] theorem bandStep_silent (b : Band) : bandStep b 0 0 = (0, 0) := by simp [bandStep]

/-- Cleared filters give silence for silence and stay cleared. -/
theorem bandsStep_silent (bs : List Band) {mems : List Nat} (h : ∀ m ∈ mems, m = 0) :
    (bandsStep bs mems 0).1 = 0 ∧ ∀ m ∈ (bandsStep bs mems 0).2, m = 0 := by
  induction bs generalizing mems with
  | nil => simp [bandsStep]
  | cons b bs ih =>
    have hd : mems.headD 0 = 0 := by cases mems with | nil => rfl | cons m ms => exact h m (by simp)
    have ht : ∀ m ∈ mems.tail, m = 0 := fun m hm => h m (List.mem_of_mem_tail hm)
    simp only [bandsStep, hd, bandStep_silent, List.mem_cons, forall_eq_or_imp]
    exact ⟨(ih ht).1, trivial, (ih ht).2⟩

/-- An equaliser with cleared filters gives silence for silence and keeps them cleared, also in a crossfade (R168). -/
theorem Equaliser.step_silent (e : Equaliser) (ha : ∀ m ∈ e.memA, m = 0) (hb : ∀ m ∈ e.memB, m = 0) :
    (e.step 0).1 = 0 ∧ (∀ m ∈ (e.step 0).2.memA, m = 0) ∧ ∀ m ∈ (e.step 0).2.memB, m = 0 := by
  have h (c : EqSet) {mems} := bandsStep_silent (c.bands ++ [shelfBand c.shelf]) (mems := mems)
  unfold Equaliser.step
  split
  · exact ⟨(h _ ha).1, (h _ ha).2, hb⟩
  · refine ⟨?_, (h _ ha).2, (h _ hb).2⟩
    simp [chainStep, (h _ ha).1, (h _ hb).1]

end Sys2Proof.Machine
end

