-- ==== Sys2Proof/Laws/State.lean ====
section
/-! SUPPORT. One lemma for each field of `State` under each update: what an update writes and what it keeps. -/

namespace Sys2Proof.Machine

/-! ### withPending -/

section

variable (s : State) (x : List Instr)

@[simp] theorem State.withPending_pending : (s.withPending x).pending = x := rfl
@[simp] theorem State.withPending_inputs : (s.withPending x).inputs = s.inputs := rfl
@[simp] theorem State.withPending_clock : (s.withPending x).clock = s.clock := rfl
@[simp] theorem State.withPending_pins : (s.withPending x).pins = s.pins := rfl
@[simp] theorem State.withPending_globals : (s.withPending x).globals = s.globals := rfl
@[simp] theorem State.withPending_zones : (s.withPending x).zones = s.zones := rfl
@[simp] theorem State.withPending_paths : (s.withPending x).paths = s.paths := rfl
@[simp] theorem State.withPending_sensors : (s.withPending x).sensors = s.sensors := rfl
@[simp] theorem State.withPending_bus : (s.withPending x).bus = s.bus := rfl
@[simp] theorem State.withPending_regions : (s.withPending x).regions = s.regions := rfl
@[simp] theorem State.withPending_queue : (s.withPending x).queue = s.queue := rfl
@[simp] theorem State.withPending_due : (s.withPending x).due = s.due := rfl
@[simp] theorem State.withPending_flight : (s.withPending x).flight = s.flight := rfl
@[simp] theorem State.withPending_mics : (s.withPending x).mics = s.mics := rfl
@[simp] theorem State.withPending_link : (s.withPending x).link = s.link := rfl
@[simp] theorem State.withPending_lines : (s.withPending x).lines = s.lines := rfl
@[simp] theorem State.withPending_store : (s.withPending x).store = s.store := rfl
@[simp] theorem State.withPending_outSlots : (s.withPending x).outSlots = s.outSlots := rfl

/-- The last of two writes of `pending` stands. -/
@[simp] theorem State.withPending_twice (y : List Instr) : (s.withPending x).withPending y = s.withPending y := rfl

/-- Writing back the present `pending` changes nothing. -/
@[simp] theorem State.withPending_self : s.withPending s.pending = s := rfl

end

/-! ### withInputs -/

section

variable (s : State) (x : List TickInput)

@[simp] theorem State.withInputs_pending : (s.withInputs x).pending = s.pending := rfl
@[simp] theorem State.withInputs_inputs : (s.withInputs x).inputs = x := rfl
@[simp] theorem State.withInputs_clock : (s.withInputs x).clock = s.clock := rfl
@[simp] theorem State.withInputs_pins : (s.withInputs x).pins = s.pins := rfl
@[simp] theorem State.withInputs_globals : (s.withInputs x).globals = s.globals := rfl
@[simp] theorem State.withInputs_zones : (s.withInputs x).zones = s.zones := rfl
@[simp] theorem State.withInputs_paths : (s.withInputs x).paths = s.paths := rfl
@[simp] theorem State.withInputs_sensors : (s.withInputs x).sensors = s.sensors := rfl
@[simp] theorem State.withInputs_bus : (s.withInputs x).bus = s.bus := rfl
@[simp] theorem State.withInputs_regions : (s.withInputs x).regions = s.regions := rfl
@[simp] theorem State.withInputs_queue : (s.withInputs x).queue = s.queue := rfl
@[simp] theorem State.withInputs_due : (s.withInputs x).due = s.due := rfl
@[simp] theorem State.withInputs_flight : (s.withInputs x).flight = s.flight := rfl
@[simp] theorem State.withInputs_mics : (s.withInputs x).mics = s.mics := rfl
@[simp] theorem State.withInputs_link : (s.withInputs x).link = s.link := rfl
@[simp] theorem State.withInputs_lines : (s.withInputs x).lines = s.lines := rfl
@[simp] theorem State.withInputs_store : (s.withInputs x).store = s.store := rfl
@[simp] theorem State.withInputs_outSlots : (s.withInputs x).outSlots = s.outSlots := rfl

/-- The last of two writes of `inputs` stands. -/
@[simp] theorem State.withInputs_twice (y : List TickInput) : (s.withInputs x).withInputs y = s.withInputs y := rfl

/-- Writing back the present `inputs` changes nothing. -/
@[simp] theorem State.withInputs_self : s.withInputs s.inputs = s := rfl

end

/-! ### withClock -/

section

variable (s : State) (x : Clock)

@[simp] theorem State.withClock_pending : (s.withClock x).pending = s.pending := rfl
@[simp] theorem State.withClock_inputs : (s.withClock x).inputs = s.inputs := rfl
@[simp] theorem State.withClock_clock : (s.withClock x).clock = x := rfl
@[simp] theorem State.withClock_pins : (s.withClock x).pins = s.pins := rfl
@[simp] theorem State.withClock_globals : (s.withClock x).globals = s.globals := rfl
@[simp] theorem State.withClock_zones : (s.withClock x).zones = s.zones := rfl
@[simp] theorem State.withClock_paths : (s.withClock x).paths = s.paths := rfl
@[simp] theorem State.withClock_sensors : (s.withClock x).sensors = s.sensors := rfl
@[simp] theorem State.withClock_bus : (s.withClock x).bus = s.bus := rfl
@[simp] theorem State.withClock_regions : (s.withClock x).regions = s.regions := rfl
@[simp] theorem State.withClock_queue : (s.withClock x).queue = s.queue := rfl
@[simp] theorem State.withClock_due : (s.withClock x).due = s.due := rfl
@[simp] theorem State.withClock_flight : (s.withClock x).flight = s.flight := rfl
@[simp] theorem State.withClock_mics : (s.withClock x).mics = s.mics := rfl
@[simp] theorem State.withClock_link : (s.withClock x).link = s.link := rfl
@[simp] theorem State.withClock_lines : (s.withClock x).lines = s.lines := rfl
@[simp] theorem State.withClock_store : (s.withClock x).store = s.store := rfl
@[simp] theorem State.withClock_outSlots : (s.withClock x).outSlots = s.outSlots := rfl

/-- The last of two writes of `clock` stands. -/
@[simp] theorem State.withClock_twice (y : Clock) : (s.withClock x).withClock y = s.withClock y := rfl

/-- Writing back the present `clock` changes nothing. -/
@[simp] theorem State.withClock_self : s.withClock s.clock = s := rfl

end

/-! ### withPins -/

section

variable (s : State) (x : Pins)

@[simp] theorem State.withPins_pending : (s.withPins x).pending = s.pending := rfl
@[simp] theorem State.withPins_inputs : (s.withPins x).inputs = s.inputs := rfl
@[simp] theorem State.withPins_clock : (s.withPins x).clock = s.clock := rfl
@[simp] theorem State.withPins_pins : (s.withPins x).pins = x := rfl
@[simp] theorem State.withPins_globals : (s.withPins x).globals = s.globals := rfl
@[simp] theorem State.withPins_zones : (s.withPins x).zones = s.zones := rfl
@[simp] theorem State.withPins_paths : (s.withPins x).paths = s.paths := rfl
@[simp] theorem State.withPins_sensors : (s.withPins x).sensors = s.sensors := rfl
@[simp] theorem State.withPins_bus : (s.withPins x).bus = s.bus := rfl
@[simp] theorem State.withPins_regions : (s.withPins x).regions = s.regions := rfl
@[simp] theorem State.withPins_queue : (s.withPins x).queue = s.queue := rfl
@[simp] theorem State.withPins_due : (s.withPins x).due = s.due := rfl
@[simp] theorem State.withPins_flight : (s.withPins x).flight = s.flight := rfl
@[simp] theorem State.withPins_mics : (s.withPins x).mics = s.mics := rfl
@[simp] theorem State.withPins_link : (s.withPins x).link = s.link := rfl
@[simp] theorem State.withPins_lines : (s.withPins x).lines = s.lines := rfl
@[simp] theorem State.withPins_store : (s.withPins x).store = s.store := rfl
@[simp] theorem State.withPins_outSlots : (s.withPins x).outSlots = s.outSlots := rfl

/-- The last of two writes of `pins` stands. -/
@[simp] theorem State.withPins_twice (y : Pins) : (s.withPins x).withPins y = s.withPins y := rfl

/-- Writing back the present `pins` changes nothing. -/
@[simp] theorem State.withPins_self : s.withPins s.pins = s := rfl

end

/-! ### withGlobals -/

section

variable (s : State) (x : Globals)

@[simp] theorem State.withGlobals_pending : (s.withGlobals x).pending = s.pending := rfl
@[simp] theorem State.withGlobals_inputs : (s.withGlobals x).inputs = s.inputs := rfl
@[simp] theorem State.withGlobals_clock : (s.withGlobals x).clock = s.clock := rfl
@[simp] theorem State.withGlobals_pins : (s.withGlobals x).pins = s.pins := rfl
@[simp] theorem State.withGlobals_globals : (s.withGlobals x).globals = x := rfl
@[simp] theorem State.withGlobals_zones : (s.withGlobals x).zones = s.zones := rfl
@[simp] theorem State.withGlobals_paths : (s.withGlobals x).paths = s.paths := rfl
@[simp] theorem State.withGlobals_sensors : (s.withGlobals x).sensors = s.sensors := rfl
@[simp] theorem State.withGlobals_bus : (s.withGlobals x).bus = s.bus := rfl
@[simp] theorem State.withGlobals_regions : (s.withGlobals x).regions = s.regions := rfl
@[simp] theorem State.withGlobals_queue : (s.withGlobals x).queue = s.queue := rfl
@[simp] theorem State.withGlobals_due : (s.withGlobals x).due = s.due := rfl
@[simp] theorem State.withGlobals_flight : (s.withGlobals x).flight = s.flight := rfl
@[simp] theorem State.withGlobals_mics : (s.withGlobals x).mics = s.mics := rfl
@[simp] theorem State.withGlobals_link : (s.withGlobals x).link = s.link := rfl
@[simp] theorem State.withGlobals_lines : (s.withGlobals x).lines = s.lines := rfl
@[simp] theorem State.withGlobals_store : (s.withGlobals x).store = s.store := rfl
@[simp] theorem State.withGlobals_outSlots : (s.withGlobals x).outSlots = s.outSlots := rfl

/-- The last of two writes of `globals` stands. -/
@[simp] theorem State.withGlobals_twice (y : Globals) : (s.withGlobals x).withGlobals y = s.withGlobals y := rfl

/-- Writing back the present `globals` changes nothing. -/
@[simp] theorem State.withGlobals_self : s.withGlobals s.globals = s := rfl

end

/-! ### withZones -/

section

variable (s : State) (x : Vector Zone 48)

@[simp] theorem State.withZones_pending : (s.withZones x).pending = s.pending := rfl
@[simp] theorem State.withZones_inputs : (s.withZones x).inputs = s.inputs := rfl
@[simp] theorem State.withZones_clock : (s.withZones x).clock = s.clock := rfl
@[simp] theorem State.withZones_pins : (s.withZones x).pins = s.pins := rfl
@[simp] theorem State.withZones_globals : (s.withZones x).globals = s.globals := rfl
@[simp] theorem State.withZones_zones : (s.withZones x).zones = x := rfl
@[simp] theorem State.withZones_paths : (s.withZones x).paths = s.paths := rfl
@[simp] theorem State.withZones_sensors : (s.withZones x).sensors = s.sensors := rfl
@[simp] theorem State.withZones_bus : (s.withZones x).bus = s.bus := rfl
@[simp] theorem State.withZones_regions : (s.withZones x).regions = s.regions := rfl
@[simp] theorem State.withZones_queue : (s.withZones x).queue = s.queue := rfl
@[simp] theorem State.withZones_due : (s.withZones x).due = s.due := rfl
@[simp] theorem State.withZones_flight : (s.withZones x).flight = s.flight := rfl
@[simp] theorem State.withZones_mics : (s.withZones x).mics = s.mics := rfl
@[simp] theorem State.withZones_link : (s.withZones x).link = s.link := rfl
@[simp] theorem State.withZones_lines : (s.withZones x).lines = s.lines := rfl
@[simp] theorem State.withZones_store : (s.withZones x).store = s.store := rfl
@[simp] theorem State.withZones_outSlots : (s.withZones x).outSlots = s.outSlots := rfl

/-- The last of two writes of `zones` stands. -/
@[simp] theorem State.withZones_twice (y : Vector Zone 48) : (s.withZones x).withZones y = s.withZones y := rfl

/-- Writing back the present `zones` changes nothing. -/
@[simp] theorem State.withZones_self : s.withZones s.zones = s := rfl

end

/-! ### withPaths -/

section

variable (s : State) (x : List Path)

@[simp] theorem State.withPaths_pending : (s.withPaths x).pending = s.pending := rfl
@[simp] theorem State.withPaths_inputs : (s.withPaths x).inputs = s.inputs := rfl
@[simp] theorem State.withPaths_clock : (s.withPaths x).clock = s.clock := rfl
@[simp] theorem State.withPaths_pins : (s.withPaths x).pins = s.pins := rfl
@[simp] theorem State.withPaths_globals : (s.withPaths x).globals = s.globals := rfl
@[simp] theorem State.withPaths_zones : (s.withPaths x).zones = s.zones := rfl
@[simp] theorem State.withPaths_paths : (s.withPaths x).paths = x := rfl
@[simp] theorem State.withPaths_sensors : (s.withPaths x).sensors = s.sensors := rfl
@[simp] theorem State.withPaths_bus : (s.withPaths x).bus = s.bus := rfl
@[simp] theorem State.withPaths_regions : (s.withPaths x).regions = s.regions := rfl
@[simp] theorem State.withPaths_queue : (s.withPaths x).queue = s.queue := rfl
@[simp] theorem State.withPaths_due : (s.withPaths x).due = s.due := rfl
@[simp] theorem State.withPaths_flight : (s.withPaths x).flight = s.flight := rfl
@[simp] theorem State.withPaths_mics : (s.withPaths x).mics = s.mics := rfl
@[simp] theorem State.withPaths_link : (s.withPaths x).link = s.link := rfl
@[simp] theorem State.withPaths_lines : (s.withPaths x).lines = s.lines := rfl
@[simp] theorem State.withPaths_store : (s.withPaths x).store = s.store := rfl
@[simp] theorem State.withPaths_outSlots : (s.withPaths x).outSlots = s.outSlots := rfl

/-- The last of two writes of `paths` stands. -/
@[simp] theorem State.withPaths_twice (y : List Path) : (s.withPaths x).withPaths y = s.withPaths y := rfl

/-- Writing back the present `paths` changes nothing. -/
@[simp] theorem State.withPaths_self : s.withPaths s.paths = s := rfl

end

/-! ### withSensors -/

section

variable (s : State) (x : Vector Sensor 8)

@[simp] theorem State.withSensors_pending : (s.withSensors x).pending = s.pending := rfl
@[simp] theorem State.withSensors_inputs : (s.withSensors x).inputs = s.inputs := rfl
@[simp] theorem State.withSensors_clock : (s.withSensors x).clock = s.clock := rfl
@[simp] theorem State.withSensors_pins : (s.withSensors x).pins = s.pins := rfl
@[simp] theorem State.withSensors_globals : (s.withSensors x).globals = s.globals := rfl
@[simp] theorem State.withSensors_zones : (s.withSensors x).zones = s.zones := rfl
@[simp] theorem State.withSensors_paths : (s.withSensors x).paths = s.paths := rfl
@[simp] theorem State.withSensors_sensors : (s.withSensors x).sensors = x := rfl
@[simp] theorem State.withSensors_bus : (s.withSensors x).bus = s.bus := rfl
@[simp] theorem State.withSensors_regions : (s.withSensors x).regions = s.regions := rfl
@[simp] theorem State.withSensors_queue : (s.withSensors x).queue = s.queue := rfl
@[simp] theorem State.withSensors_due : (s.withSensors x).due = s.due := rfl
@[simp] theorem State.withSensors_flight : (s.withSensors x).flight = s.flight := rfl
@[simp] theorem State.withSensors_mics : (s.withSensors x).mics = s.mics := rfl
@[simp] theorem State.withSensors_link : (s.withSensors x).link = s.link := rfl
@[simp] theorem State.withSensors_lines : (s.withSensors x).lines = s.lines := rfl
@[simp] theorem State.withSensors_store : (s.withSensors x).store = s.store := rfl
@[simp] theorem State.withSensors_outSlots : (s.withSensors x).outSlots = s.outSlots := rfl

/-- The last of two writes of `sensors` stands. -/
@[simp] theorem State.withSensors_twice (y : Vector Sensor 8) : (s.withSensors x).withSensors y = s.withSensors y := rfl

/-- Writing back the present `sensors` changes nothing. -/
@[simp] theorem State.withSensors_self : s.withSensors s.sensors = s := rfl

end

/-! ### withBus -/

section

variable (s : State) (x : Bus)

@[simp] theorem State.withBus_pending : (s.withBus x).pending = s.pending := rfl
@[simp] theorem State.withBus_inputs : (s.withBus x).inputs = s.inputs := rfl
@[simp] theorem State.withBus_clock : (s.withBus x).clock = s.clock := rfl
@[simp] theorem State.withBus_pins : (s.withBus x).pins = s.pins := rfl
@[simp] theorem State.withBus_globals : (s.withBus x).globals = s.globals := rfl
@[simp] theorem State.withBus_zones : (s.withBus x).zones = s.zones := rfl
@[simp] theorem State.withBus_paths : (s.withBus x).paths = s.paths := rfl
@[simp] theorem State.withBus_sensors : (s.withBus x).sensors = s.sensors := rfl
@[simp] theorem State.withBus_bus : (s.withBus x).bus = x := rfl
@[simp] theorem State.withBus_regions : (s.withBus x).regions = s.regions := rfl
@[simp] theorem State.withBus_queue : (s.withBus x).queue = s.queue := rfl
@[simp] theorem State.withBus_due : (s.withBus x).due = s.due := rfl
@[simp] theorem State.withBus_flight : (s.withBus x).flight = s.flight := rfl
@[simp] theorem State.withBus_mics : (s.withBus x).mics = s.mics := rfl
@[simp] theorem State.withBus_link : (s.withBus x).link = s.link := rfl
@[simp] theorem State.withBus_lines : (s.withBus x).lines = s.lines := rfl
@[simp] theorem State.withBus_store : (s.withBus x).store = s.store := rfl
@[simp] theorem State.withBus_outSlots : (s.withBus x).outSlots = s.outSlots := rfl

/-- The last of two writes of `bus` stands. -/
@[simp] theorem State.withBus_twice (y : Bus) : (s.withBus x).withBus y = s.withBus y := rfl

/-- Writing back the present `bus` changes nothing. -/
@[simp] theorem State.withBus_self : s.withBus s.bus = s := rfl

end

/-! ### withRegions -/

section

variable (s : State) (x : Vector Region 8)

@[simp] theorem State.withRegions_pending : (s.withRegions x).pending = s.pending := rfl
@[simp] theorem State.withRegions_inputs : (s.withRegions x).inputs = s.inputs := rfl
@[simp] theorem State.withRegions_clock : (s.withRegions x).clock = s.clock := rfl
@[simp] theorem State.withRegions_pins : (s.withRegions x).pins = s.pins := rfl
@[simp] theorem State.withRegions_globals : (s.withRegions x).globals = s.globals := rfl
@[simp] theorem State.withRegions_zones : (s.withRegions x).zones = s.zones := rfl
@[simp] theorem State.withRegions_paths : (s.withRegions x).paths = s.paths := rfl
@[simp] theorem State.withRegions_sensors : (s.withRegions x).sensors = s.sensors := rfl
@[simp] theorem State.withRegions_bus : (s.withRegions x).bus = s.bus := rfl
@[simp] theorem State.withRegions_regions : (s.withRegions x).regions = x := rfl
@[simp] theorem State.withRegions_queue : (s.withRegions x).queue = s.queue := rfl
@[simp] theorem State.withRegions_due : (s.withRegions x).due = s.due := rfl
@[simp] theorem State.withRegions_flight : (s.withRegions x).flight = s.flight := rfl
@[simp] theorem State.withRegions_mics : (s.withRegions x).mics = s.mics := rfl
@[simp] theorem State.withRegions_link : (s.withRegions x).link = s.link := rfl
@[simp] theorem State.withRegions_lines : (s.withRegions x).lines = s.lines := rfl
@[simp] theorem State.withRegions_store : (s.withRegions x).store = s.store := rfl
@[simp] theorem State.withRegions_outSlots : (s.withRegions x).outSlots = s.outSlots := rfl

/-- The last of two writes of `regions` stands. -/
@[simp] theorem State.withRegions_twice (y : Vector Region 8) : (s.withRegions x).withRegions y = s.withRegions y := rfl

/-- Writing back the present `regions` changes nothing. -/
@[simp] theorem State.withRegions_self : s.withRegions s.regions = s := rfl

end

/-! ### withQueue -/

section

variable (s : State) (x : List Entry)

@[simp] theorem State.withQueue_pending : (s.withQueue x).pending = s.pending := rfl
@[simp] theorem State.withQueue_inputs : (s.withQueue x).inputs = s.inputs := rfl
@[simp] theorem State.withQueue_clock : (s.withQueue x).clock = s.clock := rfl
@[simp] theorem State.withQueue_pins : (s.withQueue x).pins = s.pins := rfl
@[simp] theorem State.withQueue_globals : (s.withQueue x).globals = s.globals := rfl
@[simp] theorem State.withQueue_zones : (s.withQueue x).zones = s.zones := rfl
@[simp] theorem State.withQueue_paths : (s.withQueue x).paths = s.paths := rfl
@[simp] theorem State.withQueue_sensors : (s.withQueue x).sensors = s.sensors := rfl
@[simp] theorem State.withQueue_bus : (s.withQueue x).bus = s.bus := rfl
@[simp] theorem State.withQueue_regions : (s.withQueue x).regions = s.regions := rfl
@[simp] theorem State.withQueue_queue : (s.withQueue x).queue = x := rfl
@[simp] theorem State.withQueue_due : (s.withQueue x).due = s.due := rfl
@[simp] theorem State.withQueue_flight : (s.withQueue x).flight = s.flight := rfl
@[simp] theorem State.withQueue_mics : (s.withQueue x).mics = s.mics := rfl
@[simp] theorem State.withQueue_link : (s.withQueue x).link = s.link := rfl
@[simp] theorem State.withQueue_lines : (s.withQueue x).lines = s.lines := rfl
@[simp] theorem State.withQueue_store : (s.withQueue x).store = s.store := rfl
@[simp] theorem State.withQueue_outSlots : (s.withQueue x).outSlots = s.outSlots := rfl

/-- The last of two writes of `queue` stands. -/
@[simp] theorem State.withQueue_twice (y : List Entry) : (s.withQueue x).withQueue y = s.withQueue y := rfl

/-- Writing back the present `queue` changes nothing. -/
@[simp] theorem State.withQueue_self : s.withQueue s.queue = s := rfl

end

/-! ### withDue -/

section

variable (s : State) (x : Vector (Option Nat) 48)

@[simp] theorem State.withDue_pending : (s.withDue x).pending = s.pending := rfl
@[simp] theorem State.withDue_inputs : (s.withDue x).inputs = s.inputs := rfl
@[simp] theorem State.withDue_clock : (s.withDue x).clock = s.clock := rfl
@[simp] theorem State.withDue_pins : (s.withDue x).pins = s.pins := rfl
@[simp] theorem State.withDue_globals : (s.withDue x).globals = s.globals := rfl
@[simp] theorem State.withDue_zones : (s.withDue x).zones = s.zones := rfl
@[simp] theorem State.withDue_paths : (s.withDue x).paths = s.paths := rfl
@[simp] theorem State.withDue_sensors : (s.withDue x).sensors = s.sensors := rfl
@[simp] theorem State.withDue_bus : (s.withDue x).bus = s.bus := rfl
@[simp] theorem State.withDue_regions : (s.withDue x).regions = s.regions := rfl
@[simp] theorem State.withDue_queue : (s.withDue x).queue = s.queue := rfl
@[simp] theorem State.withDue_due : (s.withDue x).due = x := rfl
@[simp] theorem State.withDue_flight : (s.withDue x).flight = s.flight := rfl
@[simp] theorem State.withDue_mics : (s.withDue x).mics = s.mics := rfl
@[simp] theorem State.withDue_link : (s.withDue x).link = s.link := rfl
@[simp] theorem State.withDue_lines : (s.withDue x).lines = s.lines := rfl
@[simp] theorem State.withDue_store : (s.withDue x).store = s.store := rfl
@[simp] theorem State.withDue_outSlots : (s.withDue x).outSlots = s.outSlots := rfl

/-- The last of two writes of `due` stands. -/
@[simp] theorem State.withDue_twice (y : Vector (Option Nat) 48) : (s.withDue x).withDue y = s.withDue y := rfl

/-- Writing back the present `due` changes nothing. -/
@[simp] theorem State.withDue_self : s.withDue s.due = s := rfl

end

/-! ### withFlight -/

section

variable (s : State) (x : Option Flight)

@[simp] theorem State.withFlight_pending : (s.withFlight x).pending = s.pending := rfl
@[simp] theorem State.withFlight_inputs : (s.withFlight x).inputs = s.inputs := rfl
@[simp] theorem State.withFlight_clock : (s.withFlight x).clock = s.clock := rfl
@[simp] theorem State.withFlight_pins : (s.withFlight x).pins = s.pins := rfl
@[simp] theorem State.withFlight_globals : (s.withFlight x).globals = s.globals := rfl
@[simp] theorem State.withFlight_zones : (s.withFlight x).zones = s.zones := rfl
@[simp] theorem State.withFlight_paths : (s.withFlight x).paths = s.paths := rfl
@[simp] theorem State.withFlight_sensors : (s.withFlight x).sensors = s.sensors := rfl
@[simp] theorem State.withFlight_bus : (s.withFlight x).bus = s.bus := rfl
@[simp] theorem State.withFlight_regions : (s.withFlight x).regions = s.regions := rfl
@[simp] theorem State.withFlight_queue : (s.withFlight x).queue = s.queue := rfl
@[simp] theorem State.withFlight_due : (s.withFlight x).due = s.due := rfl
@[simp] theorem State.withFlight_flight : (s.withFlight x).flight = x := rfl
@[simp] theorem State.withFlight_mics : (s.withFlight x).mics = s.mics := rfl
@[simp] theorem State.withFlight_link : (s.withFlight x).link = s.link := rfl
@[simp] theorem State.withFlight_lines : (s.withFlight x).lines = s.lines := rfl
@[simp] theorem State.withFlight_store : (s.withFlight x).store = s.store := rfl
@[simp] theorem State.withFlight_outSlots : (s.withFlight x).outSlots = s.outSlots := rfl

/-- The last of two writes of `flight` stands. -/
@[simp] theorem State.withFlight_twice (y : Option Flight) : (s.withFlight x).withFlight y = s.withFlight y := rfl

/-- Writing back the present `flight` changes nothing. -/
@[simp] theorem State.withFlight_self : s.withFlight s.flight = s := rfl

end

/-! ### withMics -/

section

variable (s : State) (x : Vector Mic 16)

@[simp] theorem State.withMics_pending : (s.withMics x).pending = s.pending := rfl
@[simp] theorem State.withMics_inputs : (s.withMics x).inputs = s.inputs := rfl
@[simp] theorem State.withMics_clock : (s.withMics x).clock = s.clock := rfl
@[simp] theorem State.withMics_pins : (s.withMics x).pins = s.pins := rfl
@[simp] theorem State.withMics_globals : (s.withMics x).globals = s.globals := rfl
@[simp] theorem State.withMics_zones : (s.withMics x).zones = s.zones := rfl
@[simp] theorem State.withMics_paths : (s.withMics x).paths = s.paths := rfl
@[simp] theorem State.withMics_sensors : (s.withMics x).sensors = s.sensors := rfl
@[simp] theorem State.withMics_bus : (s.withMics x).bus = s.bus := rfl
@[simp] theorem State.withMics_regions : (s.withMics x).regions = s.regions := rfl
@[simp] theorem State.withMics_queue : (s.withMics x).queue = s.queue := rfl
@[simp] theorem State.withMics_due : (s.withMics x).due = s.due := rfl
@[simp] theorem State.withMics_flight : (s.withMics x).flight = s.flight := rfl
@[simp] theorem State.withMics_mics : (s.withMics x).mics = x := rfl
@[simp] theorem State.withMics_link : (s.withMics x).link = s.link := rfl
@[simp] theorem State.withMics_lines : (s.withMics x).lines = s.lines := rfl
@[simp] theorem State.withMics_store : (s.withMics x).store = s.store := rfl
@[simp] theorem State.withMics_outSlots : (s.withMics x).outSlots = s.outSlots := rfl

/-- The last of two writes of `mics` stands. -/
@[simp] theorem State.withMics_twice (y : Vector Mic 16) : (s.withMics x).withMics y = s.withMics y := rfl

/-- Writing back the present `mics` changes nothing. -/
@[simp] theorem State.withMics_self : s.withMics s.mics = s := rfl

end

/-! ### withLink -/

section

variable (s : State) (x : Link)

@[simp] theorem State.withLink_pending : (s.withLink x).pending = s.pending := rfl
@[simp] theorem State.withLink_inputs : (s.withLink x).inputs = s.inputs := rfl
@[simp] theorem State.withLink_clock : (s.withLink x).clock = s.clock := rfl
@[simp] theorem State.withLink_pins : (s.withLink x).pins = s.pins := rfl
@[simp] theorem State.withLink_globals : (s.withLink x).globals = s.globals := rfl
@[simp] theorem State.withLink_zones : (s.withLink x).zones = s.zones := rfl
@[simp] theorem State.withLink_paths : (s.withLink x).paths = s.paths := rfl
@[simp] theorem State.withLink_sensors : (s.withLink x).sensors = s.sensors := rfl
@[simp] theorem State.withLink_bus : (s.withLink x).bus = s.bus := rfl
@[simp] theorem State.withLink_regions : (s.withLink x).regions = s.regions := rfl
@[simp] theorem State.withLink_queue : (s.withLink x).queue = s.queue := rfl
@[simp] theorem State.withLink_due : (s.withLink x).due = s.due := rfl
@[simp] theorem State.withLink_flight : (s.withLink x).flight = s.flight := rfl
@[simp] theorem State.withLink_mics : (s.withLink x).mics = s.mics := rfl
@[simp] theorem State.withLink_link : (s.withLink x).link = x := rfl
@[simp] theorem State.withLink_lines : (s.withLink x).lines = s.lines := rfl
@[simp] theorem State.withLink_store : (s.withLink x).store = s.store := rfl
@[simp] theorem State.withLink_outSlots : (s.withLink x).outSlots = s.outSlots := rfl

/-- The last of two writes of `link` stands. -/
@[simp] theorem State.withLink_twice (y : Link) : (s.withLink x).withLink y = s.withLink y := rfl

/-- Writing back the present `link` changes nothing. -/
@[simp] theorem State.withLink_self : s.withLink s.link = s := rfl

end

/-! ### withLines -/

section

variable (s : State) (x : Vector Line 6)

@[simp] theorem State.withLines_pending : (s.withLines x).pending = s.pending := rfl
@[simp] theorem State.withLines_inputs : (s.withLines x).inputs = s.inputs := rfl
@[simp] theorem State.withLines_clock : (s.withLines x).clock = s.clock := rfl
@[simp] theorem State.withLines_pins : (s.withLines x).pins = s.pins := rfl
@[simp] theorem State.withLines_globals : (s.withLines x).globals = s.globals := rfl
@[simp] theorem State.withLines_zones : (s.withLines x).zones = s.zones := rfl
@[simp] theorem State.withLines_paths : (s.withLines x).paths = s.paths := rfl
@[simp] theorem State.withLines_sensors : (s.withLines x).sensors = s.sensors := rfl
@[simp] theorem State.withLines_bus : (s.withLines x).bus = s.bus := rfl
@[simp] theorem State.withLines_regions : (s.withLines x).regions = s.regions := rfl
@[simp] theorem State.withLines_queue : (s.withLines x).queue = s.queue := rfl
@[simp] theorem State.withLines_due : (s.withLines x).due = s.due := rfl
@[simp] theorem State.withLines_flight : (s.withLines x).flight = s.flight := rfl
@[simp] theorem State.withLines_mics : (s.withLines x).mics = s.mics := rfl
@[simp] theorem State.withLines_link : (s.withLines x).link = s.link := rfl
@[simp] theorem State.withLines_lines : (s.withLines x).lines = x := rfl
@[simp] theorem State.withLines_store : (s.withLines x).store = s.store := rfl
@[simp] theorem State.withLines_outSlots : (s.withLines x).outSlots = s.outSlots := rfl

/-- The last of two writes of `lines` stands. -/
@[simp] theorem State.withLines_twice (y : Vector Line 6) : (s.withLines x).withLines y = s.withLines y := rfl

/-- Writing back the present `lines` changes nothing. -/
@[simp] theorem State.withLines_self : s.withLines s.lines = s := rfl

end

/-! ### withStore -/

section

variable (s : State) (x : Store)

@[simp] theorem State.withStore_pending : (s.withStore x).pending = s.pending := rfl
@[simp] theorem State.withStore_inputs : (s.withStore x).inputs = s.inputs := rfl
@[simp] theorem State.withStore_clock : (s.withStore x).clock = s.clock := rfl
@[simp] theorem State.withStore_pins : (s.withStore x).pins = s.pins := rfl
@[simp] theorem State.withStore_globals : (s.withStore x).globals = s.globals := rfl
@[simp] theorem State.withStore_zones : (s.withStore x).zones = s.zones := rfl
@[simp] theorem State.withStore_paths : (s.withStore x).paths = s.paths := rfl
@[simp] theorem State.withStore_sensors : (s.withStore x).sensors = s.sensors := rfl
@[simp] theorem State.withStore_bus : (s.withStore x).bus = s.bus := rfl
@[simp] theorem State.withStore_regions : (s.withStore x).regions = s.regions := rfl
@[simp] theorem State.withStore_queue : (s.withStore x).queue = s.queue := rfl
@[simp] theorem State.withStore_due : (s.withStore x).due = s.due := rfl
@[simp] theorem State.withStore_flight : (s.withStore x).flight = s.flight := rfl
@[simp] theorem State.withStore_mics : (s.withStore x).mics = s.mics := rfl
@[simp] theorem State.withStore_link : (s.withStore x).link = s.link := rfl
@[simp] theorem State.withStore_lines : (s.withStore x).lines = s.lines := rfl
@[simp] theorem State.withStore_store : (s.withStore x).store = x := rfl
@[simp] theorem State.withStore_outSlots : (s.withStore x).outSlots = s.outSlots := rfl

/-- The last of two writes of `store` stands. -/
@[simp] theorem State.withStore_twice (y : Store) : (s.withStore x).withStore y = s.withStore y := rfl

/-- Writing back the present `store` changes nothing. -/
@[simp] theorem State.withStore_self : s.withStore s.store = s := rfl

end

/-! ### withOutSlots -/

section

variable (s : State) (x : Vector Int 48)

@[simp] theorem State.withOutSlots_pending : (s.withOutSlots x).pending = s.pending := rfl
@[simp] theorem State.withOutSlots_inputs : (s.withOutSlots x).inputs = s.inputs := rfl
@[simp] theorem State.withOutSlots_clock : (s.withOutSlots x).clock = s.clock := rfl
@[simp] theorem State.withOutSlots_pins : (s.withOutSlots x).pins = s.pins := rfl
@[simp] theorem State.withOutSlots_globals : (s.withOutSlots x).globals = s.globals := rfl
@[simp] theorem State.withOutSlots_zones : (s.withOutSlots x).zones = s.zones := rfl
@[simp] theorem State.withOutSlots_paths : (s.withOutSlots x).paths = s.paths := rfl
@[simp] theorem State.withOutSlots_sensors : (s.withOutSlots x).sensors = s.sensors := rfl
@[simp] theorem State.withOutSlots_bus : (s.withOutSlots x).bus = s.bus := rfl
@[simp] theorem State.withOutSlots_regions : (s.withOutSlots x).regions = s.regions := rfl
@[simp] theorem State.withOutSlots_queue : (s.withOutSlots x).queue = s.queue := rfl
@[simp] theorem State.withOutSlots_due : (s.withOutSlots x).due = s.due := rfl
@[simp] theorem State.withOutSlots_flight : (s.withOutSlots x).flight = s.flight := rfl
@[simp] theorem State.withOutSlots_mics : (s.withOutSlots x).mics = s.mics := rfl
@[simp] theorem State.withOutSlots_link : (s.withOutSlots x).link = s.link := rfl
@[simp] theorem State.withOutSlots_lines : (s.withOutSlots x).lines = s.lines := rfl
@[simp] theorem State.withOutSlots_store : (s.withOutSlots x).store = s.store := rfl
@[simp] theorem State.withOutSlots_outSlots : (s.withOutSlots x).outSlots = x := rfl

/-- The last of two writes of `outSlots` stands. -/
@[simp] theorem State.withOutSlots_twice (y : Vector Int 48) : (s.withOutSlots x).withOutSlots y = s.withOutSlots y := rfl

/-- Writing back the present `outSlots` changes nothing. -/
@[simp] theorem State.withOutSlots_self : s.withOutSlots s.outSlots = s := rfl

end

end Sys2Proof.Machine
end

