-- ==== Sys2Proof/Laws/Keeps.lean ====
section
/-! SUPPORT. What each shared operation leaves alone: one theorem for each operation, which names every field it never
writes. A caller cites it and does not unfold the operation. -/

namespace Sys2Proof.Machine

variable (s : State)

/-! ### Ops -/

@[simp] theorem State.setZone_keeps (z : Nat) (x : Zone) :
    (s.setZone z x).pending = s.pending ∧ (s.setZone z x).inputs = s.inputs ∧ (s.setZone z x).clock = s.clock ∧
    (s.setZone z x).pins = s.pins ∧ (s.setZone z x).globals = s.globals ∧ (s.setZone z x).paths = s.paths ∧
    (s.setZone z x).sensors = s.sensors ∧ (s.setZone z x).bus = s.bus ∧ (s.setZone z x).regions = s.regions ∧
    (s.setZone z x).queue = s.queue ∧ (s.setZone z x).due = s.due ∧ (s.setZone z x).flight = s.flight ∧
    (s.setZone z x).mics = s.mics ∧ (s.setZone z x).link = s.link ∧ (s.setZone z x).lines = s.lines ∧
    (s.setZone z x).store = s.store ∧ (s.setZone z x).outSlots = s.outSlots := by simp [State.setZone]

@[simp] theorem State.setMic_keeps (m : Nat) (x : Mic) :
    (s.setMic m x).pending = s.pending ∧ (s.setMic m x).inputs = s.inputs ∧ (s.setMic m x).clock = s.clock ∧
    (s.setMic m x).pins = s.pins ∧ (s.setMic m x).globals = s.globals ∧ (s.setMic m x).zones = s.zones ∧
    (s.setMic m x).paths = s.paths ∧ (s.setMic m x).sensors = s.sensors ∧ (s.setMic m x).bus = s.bus ∧
    (s.setMic m x).regions = s.regions ∧ (s.setMic m x).queue = s.queue ∧ (s.setMic m x).due = s.due ∧
    (s.setMic m x).flight = s.flight ∧ (s.setMic m x).link = s.link ∧ (s.setMic m x).lines = s.lines ∧
    (s.setMic m x).store = s.store ∧ (s.setMic m x).outSlots = s.outSlots := by simp [State.setMic]

@[simp] theorem State.setSensor_keeps (n : Nat) (x : Sensor) :
    (s.setSensor n x).pending = s.pending ∧ (s.setSensor n x).inputs = s.inputs ∧ (s.setSensor n x).clock = s.clock ∧
    (s.setSensor n x).pins = s.pins ∧ (s.setSensor n x).globals = s.globals ∧ (s.setSensor n x).zones = s.zones ∧
    (s.setSensor n x).paths = s.paths ∧ (s.setSensor n x).bus = s.bus ∧ (s.setSensor n x).regions = s.regions ∧
    (s.setSensor n x).queue = s.queue ∧ (s.setSensor n x).due = s.due ∧ (s.setSensor n x).flight = s.flight ∧
    (s.setSensor n x).mics = s.mics ∧ (s.setSensor n x).link = s.link ∧ (s.setSensor n x).lines = s.lines ∧
    (s.setSensor n x).store = s.store ∧ (s.setSensor n x).outSlots = s.outSlots := by simp [State.setSensor]

@[simp] theorem State.setRegion_keeps (r : Nat) (x : Region) :
    (s.setRegion r x).pending = s.pending ∧ (s.setRegion r x).inputs = s.inputs ∧ (s.setRegion r x).clock = s.clock ∧
    (s.setRegion r x).pins = s.pins ∧ (s.setRegion r x).globals = s.globals ∧ (s.setRegion r x).zones = s.zones ∧
    (s.setRegion r x).paths = s.paths ∧ (s.setRegion r x).sensors = s.sensors ∧ (s.setRegion r x).bus = s.bus ∧
    (s.setRegion r x).queue = s.queue ∧ (s.setRegion r x).due = s.due ∧ (s.setRegion r x).flight = s.flight ∧
    (s.setRegion r x).mics = s.mics ∧ (s.setRegion r x).link = s.link ∧ (s.setRegion r x).lines = s.lines ∧
    (s.setRegion r x).store = s.store ∧ (s.setRegion r x).outSlots = s.outSlots := by simp [State.setRegion]

@[simp] theorem State.setLine_keeps (l : Nat) (x : Line) :
    (s.setLine l x).pending = s.pending ∧ (s.setLine l x).inputs = s.inputs ∧ (s.setLine l x).clock = s.clock ∧
    (s.setLine l x).pins = s.pins ∧ (s.setLine l x).globals = s.globals ∧ (s.setLine l x).zones = s.zones ∧
    (s.setLine l x).paths = s.paths ∧ (s.setLine l x).sensors = s.sensors ∧ (s.setLine l x).bus = s.bus ∧
    (s.setLine l x).regions = s.regions ∧ (s.setLine l x).queue = s.queue ∧ (s.setLine l x).due = s.due ∧
    (s.setLine l x).flight = s.flight ∧ (s.setLine l x).mics = s.mics ∧ (s.setLine l x).link = s.link ∧
    (s.setLine l x).store = s.store ∧ (s.setLine l x).outSlots = s.outSlots := by simp [State.setLine]

@[simp] theorem State.setDue_keeps (z : Nat) (x : Option Nat) :
    (s.setDue z x).pending = s.pending ∧ (s.setDue z x).inputs = s.inputs ∧ (s.setDue z x).clock = s.clock ∧
    (s.setDue z x).pins = s.pins ∧ (s.setDue z x).globals = s.globals ∧ (s.setDue z x).zones = s.zones ∧
    (s.setDue z x).paths = s.paths ∧ (s.setDue z x).sensors = s.sensors ∧ (s.setDue z x).bus = s.bus ∧
    (s.setDue z x).regions = s.regions ∧ (s.setDue z x).queue = s.queue ∧ (s.setDue z x).flight = s.flight ∧
    (s.setDue z x).mics = s.mics ∧ (s.setDue z x).link = s.link ∧ (s.setDue z x).lines = s.lines ∧
    (s.setDue z x).store = s.store ∧ (s.setDue z x).outSlots = s.outSlots := by simp [State.setDue]

@[simp] theorem State.reach_keeps (t : Nat) :
    (s.reach t).pending = s.pending ∧ (s.reach t).inputs = s.inputs ∧ (s.reach t).pins = s.pins ∧
    (s.reach t).globals = s.globals ∧ (s.reach t).zones = s.zones ∧ (s.reach t).paths = s.paths ∧
    (s.reach t).sensors = s.sensors ∧ (s.reach t).bus = s.bus ∧ (s.reach t).regions = s.regions ∧
    (s.reach t).queue = s.queue ∧ (s.reach t).due = s.due ∧ (s.reach t).flight = s.flight ∧
    (s.reach t).mics = s.mics ∧ (s.reach t).link = s.link ∧ (s.reach t).lines = s.lines ∧
    (s.reach t).store = s.store ∧ (s.reach t).outSlots = s.outSlots := by simp [State.reach]

@[simp] theorem State.raise_keeps (n : Notice) :
    (s.raise n).pending = s.pending ∧ (s.raise n).inputs = s.inputs ∧ (s.raise n).clock = s.clock ∧
    (s.raise n).pins = s.pins ∧ (s.raise n).globals = s.globals ∧ (s.raise n).zones = s.zones ∧
    (s.raise n).paths = s.paths ∧ (s.raise n).sensors = s.sensors ∧ (s.raise n).bus = s.bus ∧
    (s.raise n).regions = s.regions ∧ (s.raise n).queue = s.queue ∧ (s.raise n).due = s.due ∧
    (s.raise n).flight = s.flight ∧ (s.raise n).mics = s.mics ∧ (s.raise n).lines = s.lines ∧
    (s.raise n).store = s.store ∧ (s.raise n).outSlots = s.outSlots := by simp [State.raise]

@[simp] theorem State.raiseAll_keeps (ns : List Notice) :
    (s.raiseAll ns).pending = s.pending ∧ (s.raiseAll ns).inputs = s.inputs ∧ (s.raiseAll ns).clock = s.clock ∧
    (s.raiseAll ns).pins = s.pins ∧ (s.raiseAll ns).globals = s.globals ∧ (s.raiseAll ns).zones = s.zones ∧
    (s.raiseAll ns).paths = s.paths ∧ (s.raiseAll ns).sensors = s.sensors ∧ (s.raiseAll ns).bus = s.bus ∧
    (s.raiseAll ns).regions = s.regions ∧ (s.raiseAll ns).queue = s.queue ∧ (s.raiseAll ns).due = s.due ∧
    (s.raiseAll ns).flight = s.flight ∧ (s.raiseAll ns).mics = s.mics ∧ (s.raiseAll ns).lines = s.lines ∧
    (s.raiseAll ns).store = s.store ∧ (s.raiseAll ns).outSlots = s.outSlots := by
  unfold State.raiseAll
  induction ns generalizing s with
  | nil => simp
  | cons n ns ih => simp [ih]

@[simp] theorem State.settleTx_keeps :
    (s.settleTx).pending = s.pending ∧ (s.settleTx).inputs = s.inputs ∧ (s.settleTx).clock = s.clock ∧
    (s.settleTx).pins = s.pins ∧ (s.settleTx).globals = s.globals ∧ (s.settleTx).zones = s.zones ∧
    (s.settleTx).paths = s.paths ∧ (s.settleTx).sensors = s.sensors ∧ (s.settleTx).bus = s.bus ∧
    (s.settleTx).regions = s.regions ∧ (s.settleTx).queue = s.queue ∧ (s.settleTx).due = s.due ∧
    (s.settleTx).flight = s.flight ∧ (s.settleTx).mics = s.mics ∧ (s.settleTx).lines = s.lines ∧
    (s.settleTx).store = s.store ∧ (s.settleTx).outSlots = s.outSlots := by simp [State.settleTx]

@[simp] theorem State.takeCommand_keeps (c : RxCommand) :
    (s.takeCommand c).pending = s.pending ∧ (s.takeCommand c).inputs = s.inputs ∧ (s.takeCommand c).clock = s.clock ∧
    (s.takeCommand c).pins = s.pins ∧ (s.takeCommand c).globals = s.globals ∧ (s.takeCommand c).zones = s.zones ∧
    (s.takeCommand c).paths = s.paths ∧ (s.takeCommand c).sensors = s.sensors ∧ (s.takeCommand c).bus = s.bus ∧
    (s.takeCommand c).regions = s.regions ∧ (s.takeCommand c).queue = s.queue ∧ (s.takeCommand c).due = s.due ∧
    (s.takeCommand c).flight = s.flight ∧ (s.takeCommand c).mics = s.mics ∧ (s.takeCommand c).lines = s.lines ∧
    (s.takeCommand c).store = s.store ∧ (s.takeCommand c).outSlots = s.outSlots := by simp [State.takeCommand]

@[simp] theorem State.placeReply_keeps (c : RxCommand) (a : Answer) :
    (s.placeReply c a).pending = s.pending ∧ (s.placeReply c a).inputs = s.inputs ∧ (s.placeReply c a).clock = s.clock ∧
    (s.placeReply c a).pins = s.pins ∧ (s.placeReply c a).globals = s.globals ∧ (s.placeReply c a).zones = s.zones ∧
    (s.placeReply c a).paths = s.paths ∧ (s.placeReply c a).sensors = s.sensors ∧ (s.placeReply c a).bus = s.bus ∧
    (s.placeReply c a).regions = s.regions ∧ (s.placeReply c a).queue = s.queue ∧ (s.placeReply c a).due = s.due ∧
    (s.placeReply c a).flight = s.flight ∧ (s.placeReply c a).mics = s.mics ∧ (s.placeReply c a).lines = s.lines ∧
    (s.placeReply c a).store = s.store ∧ (s.placeReply c a).outSlots = s.outSlots := by simp [State.placeReply]

/-! ### Solver -/

@[simp] theorem State.adopt_keeps (zs : Vector Zone 48) :
    (s.adopt zs).pending = s.pending ∧ (s.adopt zs).inputs = s.inputs ∧ (s.adopt zs).clock = s.clock ∧
    (s.adopt zs).pins = s.pins ∧ (s.adopt zs).globals = s.globals ∧ (s.adopt zs).paths = s.paths ∧
    (s.adopt zs).sensors = s.sensors ∧ (s.adopt zs).bus = s.bus ∧ (s.adopt zs).regions = s.regions ∧
    (s.adopt zs).queue = s.queue ∧ (s.adopt zs).due = s.due ∧ (s.adopt zs).flight = s.flight ∧
    (s.adopt zs).mics = s.mics ∧ (s.adopt zs).lines = s.lines ∧ (s.adopt zs).store = s.store ∧
    (s.adopt zs).outSlots = s.outSlots := by simp [State.adopt]

@[simp] theorem State.recompute_keeps (sel : Nat → Bool) :
    (s.recompute sel).pending = s.pending ∧ (s.recompute sel).inputs = s.inputs ∧ (s.recompute sel).clock = s.clock ∧
    (s.recompute sel).pins = s.pins ∧ (s.recompute sel).globals = s.globals ∧ (s.recompute sel).paths = s.paths ∧
    (s.recompute sel).sensors = s.sensors ∧ (s.recompute sel).bus = s.bus ∧ (s.recompute sel).regions = s.regions ∧
    (s.recompute sel).queue = s.queue ∧ (s.recompute sel).due = s.due ∧ (s.recompute sel).flight = s.flight ∧
    (s.recompute sel).mics = s.mics ∧ (s.recompute sel).lines = s.lines ∧ (s.recompute sel).store = s.store ∧
    (s.recompute sel).outSlots = s.outSlots := by
  unfold State.recompute; (repeat' split) <;> simp

@[simp] theorem State.recomputeQuietly_keeps (sel : Nat → Bool) :
    (s.recomputeQuietly sel).pending = s.pending ∧ (s.recomputeQuietly sel).inputs = s.inputs ∧ (s.recomputeQuietly sel).clock = s.clock ∧
    (s.recomputeQuietly sel).pins = s.pins ∧ (s.recomputeQuietly sel).globals = s.globals ∧ (s.recomputeQuietly sel).paths = s.paths ∧
    (s.recomputeQuietly sel).sensors = s.sensors ∧ (s.recomputeQuietly sel).bus = s.bus ∧ (s.recomputeQuietly sel).regions = s.regions ∧
    (s.recomputeQuietly sel).queue = s.queue ∧ (s.recomputeQuietly sel).due = s.due ∧ (s.recomputeQuietly sel).flight = s.flight ∧
    (s.recomputeQuietly sel).mics = s.mics ∧ (s.recomputeQuietly sel).link = s.link ∧ (s.recomputeQuietly sel).lines = s.lines ∧
    (s.recomputeQuietly sel).store = s.store ∧ (s.recomputeQuietly sel).outSlots = s.outSlots := by simp [State.recomputeQuietly]

@[simp] theorem State.startWatching_keeps :
    (s.startWatching).pending = s.pending ∧ (s.startWatching).inputs = s.inputs ∧ (s.startWatching).clock = s.clock ∧
    (s.startWatching).pins = s.pins ∧ (s.startWatching).globals = s.globals ∧ (s.startWatching).zones = s.zones ∧
    (s.startWatching).paths = s.paths ∧ (s.startWatching).sensors = s.sensors ∧ (s.startWatching).bus = s.bus ∧
    (s.startWatching).regions = s.regions ∧ (s.startWatching).queue = s.queue ∧ (s.startWatching).due = s.due ∧
    (s.startWatching).flight = s.flight ∧ (s.startWatching).mics = s.mics ∧ (s.startWatching).lines = s.lines ∧
    (s.startWatching).store = s.store ∧ (s.startWatching).outSlots = s.outSlots := by simp [State.startWatching]

@[simp] theorem State.leaveLapse_keeps :
    (s.leaveLapse).pending = s.pending ∧ (s.leaveLapse).inputs = s.inputs ∧ (s.leaveLapse).clock = s.clock ∧
    (s.leaveLapse).pins = s.pins ∧ (s.leaveLapse).globals = s.globals ∧ (s.leaveLapse).paths = s.paths ∧
    (s.leaveLapse).sensors = s.sensors ∧ (s.leaveLapse).bus = s.bus ∧ (s.leaveLapse).regions = s.regions ∧
    (s.leaveLapse).queue = s.queue ∧ (s.leaveLapse).due = s.due ∧ (s.leaveLapse).flight = s.flight ∧
    (s.leaveLapse).mics = s.mics ∧ (s.leaveLapse).lines = s.lines ∧ (s.leaveLapse).store = s.store ∧
    (s.leaveLapse).outSlots = s.outSlots := by
  unfold State.leaveLapse; (repeat' split) <;> simp

@[simp] theorem State.reformSets_keeps (sel : Nat → Bool) :
    (s.reformSets sel).pending = s.pending ∧ (s.reformSets sel).inputs = s.inputs ∧ (s.reformSets sel).clock = s.clock ∧
    (s.reformSets sel).pins = s.pins ∧ (s.reformSets sel).globals = s.globals ∧ (s.reformSets sel).paths = s.paths ∧
    (s.reformSets sel).sensors = s.sensors ∧ (s.reformSets sel).bus = s.bus ∧ (s.reformSets sel).regions = s.regions ∧
    (s.reformSets sel).queue = s.queue ∧ (s.reformSets sel).due = s.due ∧ (s.reformSets sel).flight = s.flight ∧
    (s.reformSets sel).mics = s.mics ∧ (s.reformSets sel).link = s.link ∧ (s.reformSets sel).lines = s.lines ∧
    (s.reformSets sel).store = s.store ∧ (s.reformSets sel).outSlots = s.outSlots := by simp [State.reformSets]

@[simp] theorem State.pathsChanged_keeps (keys : List (Nat × Nat)) :
    (s.pathsChanged keys).pending = s.pending ∧ (s.pathsChanged keys).inputs = s.inputs ∧ (s.pathsChanged keys).clock = s.clock ∧
    (s.pathsChanged keys).pins = s.pins ∧ (s.pathsChanged keys).globals = s.globals ∧ (s.pathsChanged keys).paths = s.paths ∧
    (s.pathsChanged keys).sensors = s.sensors ∧ (s.pathsChanged keys).bus = s.bus ∧ (s.pathsChanged keys).regions = s.regions ∧
    (s.pathsChanged keys).queue = s.queue ∧ (s.pathsChanged keys).due = s.due ∧ (s.pathsChanged keys).flight = s.flight ∧
    (s.pathsChanged keys).mics = s.mics ∧ (s.pathsChanged keys).lines = s.lines ∧ (s.pathsChanged keys).store = s.store ∧
    (s.pathsChanged keys).outSlots = s.outSlots := by simp [State.pathsChanged]

@[simp] theorem State.regionsChanged_keeps (old : Vector Region 8) :
    (s.regionsChanged old).pending = s.pending ∧ (s.regionsChanged old).inputs = s.inputs ∧ (s.regionsChanged old).clock = s.clock ∧
    (s.regionsChanged old).pins = s.pins ∧ (s.regionsChanged old).globals = s.globals ∧ (s.regionsChanged old).paths = s.paths ∧
    (s.regionsChanged old).sensors = s.sensors ∧ (s.regionsChanged old).bus = s.bus ∧ (s.regionsChanged old).regions = s.regions ∧
    (s.regionsChanged old).queue = s.queue ∧ (s.regionsChanged old).due = s.due ∧ (s.regionsChanged old).flight = s.flight ∧
    (s.regionsChanged old).mics = s.mics ∧ (s.regionsChanged old).lines = s.lines ∧ (s.regionsChanged old).store = s.store ∧
    (s.regionsChanged old).outSlots = s.outSlots := by simp [State.regionsChanged]

/-! ### Climate -/

@[simp] theorem State.noteSensor_keeps (n : Nat) (prev : SensorState) :
    (s.noteSensor n prev).pending = s.pending ∧ (s.noteSensor n prev).inputs = s.inputs ∧ (s.noteSensor n prev).clock = s.clock ∧
    (s.noteSensor n prev).pins = s.pins ∧ (s.noteSensor n prev).globals = s.globals ∧ (s.noteSensor n prev).zones = s.zones ∧
    (s.noteSensor n prev).paths = s.paths ∧ (s.noteSensor n prev).sensors = s.sensors ∧ (s.noteSensor n prev).bus = s.bus ∧
    (s.noteSensor n prev).regions = s.regions ∧ (s.noteSensor n prev).queue = s.queue ∧ (s.noteSensor n prev).due = s.due ∧
    (s.noteSensor n prev).flight = s.flight ∧ (s.noteSensor n prev).mics = s.mics ∧ (s.noteSensor n prev).lines = s.lines ∧
    (s.noteSensor n prev).store = s.store ∧ (s.noteSensor n prev).outSlots = s.outSlots := by
  unfold State.noteSensor; (repeat' split) <;> simp

@[simp] theorem State.enterRegion_keeps (r : Nat) (x : Region) :
    (s.enterRegion r x).pending = s.pending ∧ (s.enterRegion r x).inputs = s.inputs ∧ (s.enterRegion r x).clock = s.clock ∧
    (s.enterRegion r x).pins = s.pins ∧ (s.enterRegion r x).globals = s.globals ∧ (s.enterRegion r x).zones = s.zones ∧
    (s.enterRegion r x).paths = s.paths ∧ (s.enterRegion r x).sensors = s.sensors ∧ (s.enterRegion r x).bus = s.bus ∧
    (s.enterRegion r x).queue = s.queue ∧ (s.enterRegion r x).due = s.due ∧ (s.enterRegion r x).flight = s.flight ∧
    (s.enterRegion r x).mics = s.mics ∧ (s.enterRegion r x).lines = s.lines ∧ (s.enterRegion r x).store = s.store ∧
    (s.enterRegion r x).outSlots = s.outSlots := by
  unfold State.enterRegion; dsimp only; (repeat' split) <;> simp

@[simp] theorem State.reevaluate_keeps (r : Nat) :
    (s.reevaluate r).pending = s.pending ∧ (s.reevaluate r).inputs = s.inputs ∧ (s.reevaluate r).clock = s.clock ∧
    (s.reevaluate r).pins = s.pins ∧ (s.reevaluate r).globals = s.globals ∧ (s.reevaluate r).zones = s.zones ∧
    (s.reevaluate r).paths = s.paths ∧ (s.reevaluate r).sensors = s.sensors ∧ (s.reevaluate r).bus = s.bus ∧
    (s.reevaluate r).queue = s.queue ∧ (s.reevaluate r).due = s.due ∧ (s.reevaluate r).flight = s.flight ∧
    (s.reevaluate r).mics = s.mics ∧ (s.reevaluate r).lines = s.lines ∧ (s.reevaluate r).store = s.store ∧
    (s.reevaluate r).outSlots = s.outSlots := by
  unfold State.reevaluate; dsimp only; (repeat' split) <;> simp

@[simp] theorem State.enterDefault_keeps (r : Nat) :
    (s.enterDefault r).pending = s.pending ∧ (s.enterDefault r).inputs = s.inputs ∧ (s.enterDefault r).clock = s.clock ∧
    (s.enterDefault r).pins = s.pins ∧ (s.enterDefault r).globals = s.globals ∧ (s.enterDefault r).zones = s.zones ∧
    (s.enterDefault r).paths = s.paths ∧ (s.enterDefault r).sensors = s.sensors ∧ (s.enterDefault r).bus = s.bus ∧
    (s.enterDefault r).queue = s.queue ∧ (s.enterDefault r).due = s.due ∧ (s.enterDefault r).flight = s.flight ∧
    (s.enterDefault r).mics = s.mics ∧ (s.enterDefault r).lines = s.lines ∧ (s.enterDefault r).store = s.store ∧
    (s.enterDefault r).outSlots = s.outSlots := by simp [State.enterDefault]

@[simp] theorem State.reevaluateAll_keeps (rs : List Nat) :
    (s.reevaluateAll rs).pending = s.pending ∧ (s.reevaluateAll rs).inputs = s.inputs ∧ (s.reevaluateAll rs).clock = s.clock ∧
    (s.reevaluateAll rs).pins = s.pins ∧ (s.reevaluateAll rs).globals = s.globals ∧ (s.reevaluateAll rs).zones = s.zones ∧
    (s.reevaluateAll rs).paths = s.paths ∧ (s.reevaluateAll rs).sensors = s.sensors ∧ (s.reevaluateAll rs).bus = s.bus ∧
    (s.reevaluateAll rs).queue = s.queue ∧ (s.reevaluateAll rs).due = s.due ∧ (s.reevaluateAll rs).flight = s.flight ∧
    (s.reevaluateAll rs).mics = s.mics ∧ (s.reevaluateAll rs).lines = s.lines ∧ (s.reevaluateAll rs).store = s.store ∧
    (s.reevaluateAll rs).outSlots = s.outSlots := by
  unfold State.reevaluateAll
  induction rs generalizing s with
  | nil => simp
  | cons r rs ih => simp [ih]

@[simp] theorem State.voidPoll_keeps (n : Nat) :
    (s.voidPoll n).pending = s.pending ∧ (s.voidPoll n).inputs = s.inputs ∧ (s.voidPoll n).clock = s.clock ∧
    (s.voidPoll n).pins = s.pins ∧ (s.voidPoll n).globals = s.globals ∧ (s.voidPoll n).zones = s.zones ∧
    (s.voidPoll n).paths = s.paths ∧ (s.voidPoll n).sensors = s.sensors ∧ (s.voidPoll n).regions = s.regions ∧
    (s.voidPoll n).queue = s.queue ∧ (s.voidPoll n).due = s.due ∧ (s.voidPoll n).flight = s.flight ∧
    (s.voidPoll n).mics = s.mics ∧ (s.voidPoll n).link = s.link ∧ (s.voidPoll n).lines = s.lines ∧
    (s.voidPoll n).store = s.store ∧ (s.voidPoll n).outSlots = s.outSlots := by
  unfold State.voidPoll; (repeat' split) <;> simp

@[simp] theorem State.configureSensor_keeps (n : Nat) (c : SensorCfg) :
    (s.configureSensor n c).pending = s.pending ∧ (s.configureSensor n c).inputs = s.inputs ∧ (s.configureSensor n c).clock = s.clock ∧
    (s.configureSensor n c).pins = s.pins ∧ (s.configureSensor n c).globals = s.globals ∧ (s.configureSensor n c).zones = s.zones ∧
    (s.configureSensor n c).paths = s.paths ∧ (s.configureSensor n c).regions = s.regions ∧ (s.configureSensor n c).queue = s.queue ∧
    (s.configureSensor n c).due = s.due ∧ (s.configureSensor n c).flight = s.flight ∧ (s.configureSensor n c).mics = s.mics ∧
    (s.configureSensor n c).lines = s.lines ∧ (s.configureSensor n c).store = s.store ∧ (s.configureSensor n c).outSlots = s.outSlots := by
  unfold State.configureSensor; dsimp only; (repeat' split) <;> simp

@[simp] theorem State.lostFresh_keeps (old : Sensor) :
    (s.lostFresh old).pending = s.pending ∧ (s.lostFresh old).inputs = s.inputs ∧ (s.lostFresh old).clock = s.clock ∧
    (s.lostFresh old).pins = s.pins ∧ (s.lostFresh old).globals = s.globals ∧ (s.lostFresh old).paths = s.paths ∧
    (s.lostFresh old).sensors = s.sensors ∧ (s.lostFresh old).bus = s.bus ∧ (s.lostFresh old).queue = s.queue ∧
    (s.lostFresh old).due = s.due ∧ (s.lostFresh old).flight = s.flight ∧ (s.lostFresh old).mics = s.mics ∧
    (s.lostFresh old).lines = s.lines ∧ (s.lostFresh old).store = s.store ∧ (s.lostFresh old).outSlots = s.outSlots := by
  unfold State.lostFresh; (repeat' split) <;> simp

@[simp] theorem State.goodRead_keeps (n : Nat) (temp : Int) (hum : Nat) :
    (s.goodRead n temp hum).pending = s.pending ∧ (s.goodRead n temp hum).inputs = s.inputs ∧ (s.goodRead n temp hum).clock = s.clock ∧
    (s.goodRead n temp hum).pins = s.pins ∧ (s.goodRead n temp hum).globals = s.globals ∧ (s.goodRead n temp hum).paths = s.paths ∧
    (s.goodRead n temp hum).bus = s.bus ∧ (s.goodRead n temp hum).queue = s.queue ∧ (s.goodRead n temp hum).due = s.due ∧
    (s.goodRead n temp hum).flight = s.flight ∧ (s.goodRead n temp hum).mics = s.mics ∧ (s.goodRead n temp hum).lines = s.lines ∧
    (s.goodRead n temp hum).store = s.store ∧ (s.goodRead n temp hum).outSlots = s.outSlots := by simp [State.goodRead]

@[simp] theorem State.countedFailure_keeps (n : Nat) (k : FailKind) :
    (s.countedFailure n k).pending = s.pending ∧ (s.countedFailure n k).inputs = s.inputs ∧ (s.countedFailure n k).clock = s.clock ∧
    (s.countedFailure n k).pins = s.pins ∧ (s.countedFailure n k).globals = s.globals ∧ (s.countedFailure n k).paths = s.paths ∧
    (s.countedFailure n k).bus = s.bus ∧ (s.countedFailure n k).queue = s.queue ∧ (s.countedFailure n k).due = s.due ∧
    (s.countedFailure n k).flight = s.flight ∧ (s.countedFailure n k).mics = s.mics ∧ (s.countedFailure n k).lines = s.lines ∧
    (s.countedFailure n k).store = s.store ∧ (s.countedFailure n k).outSlots = s.outSlots := by
  unfold State.countedFailure; dsimp only; (repeat' split) <;> simp

@[simp] theorem State.makeStale_keeps (n : Nat) :
    (s.makeStale n).pending = s.pending ∧ (s.makeStale n).inputs = s.inputs ∧ (s.makeStale n).clock = s.clock ∧
    (s.makeStale n).pins = s.pins ∧ (s.makeStale n).globals = s.globals ∧ (s.makeStale n).zones = s.zones ∧
    (s.makeStale n).paths = s.paths ∧ (s.makeStale n).bus = s.bus ∧ (s.makeStale n).regions = s.regions ∧
    (s.makeStale n).queue = s.queue ∧ (s.makeStale n).due = s.due ∧ (s.makeStale n).flight = s.flight ∧
    (s.makeStale n).mics = s.mics ∧ (s.makeStale n).lines = s.lines ∧ (s.makeStale n).store = s.store ∧
    (s.makeStale n).outSlots = s.outSlots := by simp [State.makeStale]

@[simp] theorem State.startPoll_keeps :
    (s.startPoll).pending = s.pending ∧ (s.startPoll).inputs = s.inputs ∧ (s.startPoll).clock = s.clock ∧
    (s.startPoll).pins = s.pins ∧ (s.startPoll).globals = s.globals ∧ (s.startPoll).zones = s.zones ∧
    (s.startPoll).paths = s.paths ∧ (s.startPoll).regions = s.regions ∧ (s.startPoll).queue = s.queue ∧
    (s.startPoll).due = s.due ∧ (s.startPoll).flight = s.flight ∧ (s.startPoll).mics = s.mics ∧
    (s.startPoll).link = s.link ∧ (s.startPoll).lines = s.lines ∧ (s.startPoll).store = s.store ∧
    (s.startPoll).outSlots = s.outSlots := by
  unfold State.startPoll; (repeat' split) <;> simp

@[simp] theorem State.freeBus_keeps :
    (s.freeBus).pending = s.pending ∧ (s.freeBus).inputs = s.inputs ∧ (s.freeBus).clock = s.clock ∧
    (s.freeBus).pins = s.pins ∧ (s.freeBus).globals = s.globals ∧ (s.freeBus).zones = s.zones ∧
    (s.freeBus).paths = s.paths ∧ (s.freeBus).sensors = s.sensors ∧ (s.freeBus).regions = s.regions ∧
    (s.freeBus).queue = s.queue ∧ (s.freeBus).due = s.due ∧ (s.freeBus).flight = s.flight ∧
    (s.freeBus).mics = s.mics ∧ (s.freeBus).link = s.link ∧ (s.freeBus).lines = s.lines ∧
    (s.freeBus).store = s.store ∧ (s.freeBus).outSlots = s.outSlots := by simp [State.freeBus]

@[simp] theorem State.send_keeps (out : List BusSignal) :
    (s.send out).pending = s.pending ∧ (s.send out).inputs = s.inputs ∧ (s.send out).clock = s.clock ∧
    (s.send out).pins = s.pins ∧ (s.send out).globals = s.globals ∧ (s.send out).zones = s.zones ∧
    (s.send out).paths = s.paths ∧ (s.send out).sensors = s.sensors ∧ (s.send out).regions = s.regions ∧
    (s.send out).queue = s.queue ∧ (s.send out).due = s.due ∧ (s.send out).flight = s.flight ∧
    (s.send out).mics = s.mics ∧ (s.send out).link = s.link ∧ (s.send out).lines = s.lines ∧
    (s.send out).store = s.store ∧ (s.send out).outSlots = s.outSlots := by simp [State.send]

@[simp] theorem State.attemptFailed_keeps (p : Poll) (k : FailKind) :
    (s.attemptFailed p k).pending = s.pending ∧ (s.attemptFailed p k).inputs = s.inputs ∧ (s.attemptFailed p k).clock = s.clock ∧
    (s.attemptFailed p k).pins = s.pins ∧ (s.attemptFailed p k).globals = s.globals ∧ (s.attemptFailed p k).paths = s.paths ∧
    (s.attemptFailed p k).queue = s.queue ∧ (s.attemptFailed p k).due = s.due ∧ (s.attemptFailed p k).flight = s.flight ∧
    (s.attemptFailed p k).mics = s.mics ∧ (s.attemptFailed p k).lines = s.lines ∧ (s.attemptFailed p k).store = s.store ∧
    (s.attemptFailed p k).outSlots = s.outSlots := by
  unfold State.attemptFailed; (repeat' split) <;> simp

@[simp] theorem State.attemptRead_keeps (p : Poll) (temp : Int) (hum : Nat) :
    (s.attemptRead p temp hum).pending = s.pending ∧ (s.attemptRead p temp hum).inputs = s.inputs ∧ (s.attemptRead p temp hum).clock = s.clock ∧
    (s.attemptRead p temp hum).pins = s.pins ∧ (s.attemptRead p temp hum).globals = s.globals ∧ (s.attemptRead p temp hum).paths = s.paths ∧
    (s.attemptRead p temp hum).queue = s.queue ∧ (s.attemptRead p temp hum).due = s.due ∧ (s.attemptRead p temp hum).flight = s.flight ∧
    (s.attemptRead p temp hum).mics = s.mics ∧ (s.attemptRead p temp hum).lines = s.lines ∧ (s.attemptRead p temp hum).store = s.store ∧
    (s.attemptRead p temp hum).outSlots = s.outSlots := by
  unfold State.attemptRead; (repeat' split) <;> simp

@[simp] theorem State.republishDefault_keeps (r : Nat) :
    (s.republishDefault r).pending = s.pending ∧ (s.republishDefault r).inputs = s.inputs ∧ (s.republishDefault r).clock = s.clock ∧
    (s.republishDefault r).pins = s.pins ∧ (s.republishDefault r).globals = s.globals ∧ (s.republishDefault r).zones = s.zones ∧
    (s.republishDefault r).paths = s.paths ∧ (s.republishDefault r).sensors = s.sensors ∧ (s.republishDefault r).bus = s.bus ∧
    (s.republishDefault r).queue = s.queue ∧ (s.republishDefault r).due = s.due ∧ (s.republishDefault r).flight = s.flight ∧
    (s.republishDefault r).mics = s.mics ∧ (s.republishDefault r).link = s.link ∧ (s.republishDefault r).lines = s.lines ∧
    (s.republishDefault r).store = s.store ∧ (s.republishDefault r).outSlots = s.outSlots := by
  unfold State.republishDefault; (repeat' split) <;> simp

@[simp] theorem State.makeStaleAll_keeps (ns : List Nat) :
    (ns.foldl State.makeStale s).pending = s.pending ∧ (ns.foldl State.makeStale s).inputs = s.inputs ∧ (ns.foldl State.makeStale s).clock = s.clock ∧
    (ns.foldl State.makeStale s).pins = s.pins ∧ (ns.foldl State.makeStale s).globals = s.globals ∧ (ns.foldl State.makeStale s).zones = s.zones ∧
    (ns.foldl State.makeStale s).paths = s.paths ∧ (ns.foldl State.makeStale s).bus = s.bus ∧ (ns.foldl State.makeStale s).regions = s.regions ∧
    (ns.foldl State.makeStale s).queue = s.queue ∧ (ns.foldl State.makeStale s).due = s.due ∧ (ns.foldl State.makeStale s).flight = s.flight ∧
    (ns.foldl State.makeStale s).mics = s.mics ∧ (ns.foldl State.makeStale s).lines = s.lines ∧ (ns.foldl State.makeStale s).store = s.store ∧
    (ns.foldl State.makeStale s).outSlots = s.outSlots := by
  induction ns generalizing s with
  | nil => simp
  | cons n ns ih => simp [ih]

@[simp] theorem State.reschedule_keeps :
    (s.reschedule).pending = s.pending ∧ (s.reschedule).inputs = s.inputs ∧ (s.reschedule).clock = s.clock ∧
    (s.reschedule).pins = s.pins ∧ (s.reschedule).globals = s.globals ∧ (s.reschedule).zones = s.zones ∧
    (s.reschedule).paths = s.paths ∧ (s.reschedule).bus = s.bus ∧ (s.reschedule).regions = s.regions ∧
    (s.reschedule).queue = s.queue ∧ (s.reschedule).due = s.due ∧ (s.reschedule).flight = s.flight ∧
    (s.reschedule).mics = s.mics ∧ (s.reschedule).link = s.link ∧ (s.reschedule).lines = s.lines ∧
    (s.reschedule).store = s.store ∧ (s.reschedule).outSlots = s.outSlots := by simp [State.reschedule]

@[simp] theorem State.pollChanged_keeps :
    (s.pollChanged.1).pending = s.pending ∧ (s.pollChanged.1).inputs = s.inputs ∧ (s.pollChanged.1).clock = s.clock ∧
    (s.pollChanged.1).pins = s.pins ∧ (s.pollChanged.1).globals = s.globals ∧ (s.pollChanged.1).zones = s.zones ∧
    (s.pollChanged.1).paths = s.paths ∧ (s.pollChanged.1).bus = s.bus ∧ (s.pollChanged.1).regions = s.regions ∧
    (s.pollChanged.1).queue = s.queue ∧ (s.pollChanged.1).due = s.due ∧ (s.pollChanged.1).flight = s.flight ∧
    (s.pollChanged.1).mics = s.mics ∧ (s.pollChanged.1).lines = s.lines ∧ (s.pollChanged.1).store = s.store ∧
    (s.pollChanged.1).outSlots = s.outSlots := by simp [State.pollChanged]

@[simp] theorem State.settleRegions_keeps (touched : List Nat) :
    (s.settleRegions touched).pending = s.pending ∧ (s.settleRegions touched).inputs = s.inputs ∧ (s.settleRegions touched).clock = s.clock ∧
    (s.settleRegions touched).pins = s.pins ∧ (s.settleRegions touched).globals = s.globals ∧ (s.settleRegions touched).zones = s.zones ∧
    (s.settleRegions touched).paths = s.paths ∧ (s.settleRegions touched).sensors = s.sensors ∧ (s.settleRegions touched).bus = s.bus ∧
    (s.settleRegions touched).queue = s.queue ∧ (s.settleRegions touched).due = s.due ∧ (s.settleRegions touched).flight = s.flight ∧
    (s.settleRegions touched).mics = s.mics ∧ (s.settleRegions touched).lines = s.lines ∧ (s.settleRegions touched).store = s.store ∧
    (s.settleRegions touched).outSlots = s.outSlots := by
  unfold State.settleRegions
  generalize List.range 8 = rs
  induction rs generalizing s with
  | nil => simp
  | cons r rs ih => simp only [List.foldl_cons, ih]; (repeat' split) <;> simp

@[simp] theorem State.republishAll_keeps (rs : List Nat) :
    (rs.foldl State.republishDefault s).pending = s.pending ∧ (rs.foldl State.republishDefault s).inputs = s.inputs ∧ (rs.foldl State.republishDefault s).clock = s.clock ∧
    (rs.foldl State.republishDefault s).pins = s.pins ∧ (rs.foldl State.republishDefault s).globals = s.globals ∧ (rs.foldl State.republishDefault s).zones = s.zones ∧
    (rs.foldl State.republishDefault s).paths = s.paths ∧ (rs.foldl State.republishDefault s).sensors = s.sensors ∧ (rs.foldl State.republishDefault s).bus = s.bus ∧
    (rs.foldl State.republishDefault s).queue = s.queue ∧ (rs.foldl State.republishDefault s).due = s.due ∧ (rs.foldl State.republishDefault s).flight = s.flight ∧
    (rs.foldl State.republishDefault s).mics = s.mics ∧ (rs.foldl State.republishDefault s).link = s.link ∧ (rs.foldl State.republishDefault s).lines = s.lines ∧
    (rs.foldl State.republishDefault s).store = s.store ∧ (rs.foldl State.republishDefault s).outSlots = s.outSlots := by
  induction rs generalizing s with
  | nil => simp
  | cons r rs ih => simp [ih]

@[simp] theorem State.settleLoaded_keeps (touched : List Nat) (deadband : Nat) :
    (s.settleLoaded touched deadband).pending = s.pending ∧ (s.settleLoaded touched deadband).inputs = s.inputs ∧ (s.settleLoaded touched deadband).clock = s.clock ∧
    (s.settleLoaded touched deadband).pins = s.pins ∧ (s.settleLoaded touched deadband).globals = s.globals ∧ (s.settleLoaded touched deadband).zones = s.zones ∧
    (s.settleLoaded touched deadband).paths = s.paths ∧ (s.settleLoaded touched deadband).sensors = s.sensors ∧ (s.settleLoaded touched deadband).bus = s.bus ∧
    (s.settleLoaded touched deadband).queue = s.queue ∧ (s.settleLoaded touched deadband).due = s.due ∧ (s.settleLoaded touched deadband).flight = s.flight ∧
    (s.settleLoaded touched deadband).mics = s.mics ∧ (s.settleLoaded touched deadband).lines = s.lines ∧ (s.settleLoaded touched deadband).store = s.store ∧
    (s.settleLoaded touched deadband).outSlots = s.outSlots := by simp [State.settleLoaded]

/-! ### Engine -/

@[simp] theorem State.restartDue_keeps (z : Nat) :
    (s.restartDue z).pending = s.pending ∧ (s.restartDue z).inputs = s.inputs ∧ (s.restartDue z).clock = s.clock ∧
    (s.restartDue z).pins = s.pins ∧ (s.restartDue z).globals = s.globals ∧ (s.restartDue z).zones = s.zones ∧
    (s.restartDue z).paths = s.paths ∧ (s.restartDue z).sensors = s.sensors ∧ (s.restartDue z).bus = s.bus ∧
    (s.restartDue z).regions = s.regions ∧ (s.restartDue z).queue = s.queue ∧ (s.restartDue z).flight = s.flight ∧
    (s.restartDue z).mics = s.mics ∧ (s.restartDue z).link = s.link ∧ (s.restartDue z).lines = s.lines ∧
    (s.restartDue z).store = s.store ∧ (s.restartDue z).outSlots = s.outSlots := by
  unfold State.restartDue; (repeat' split) <;> simp

@[simp] theorem State.endFlight_keeps (f : Flight) :
    (s.endFlight f).pending = s.pending ∧ (s.endFlight f).inputs = s.inputs ∧ (s.endFlight f).clock = s.clock ∧
    (s.endFlight f).pins = s.pins ∧ (s.endFlight f).globals = s.globals ∧ (s.endFlight f).zones = s.zones ∧
    (s.endFlight f).paths = s.paths ∧ (s.endFlight f).sensors = s.sensors ∧ (s.endFlight f).bus = s.bus ∧
    (s.endFlight f).regions = s.regions ∧ (s.endFlight f).queue = s.queue ∧ (s.endFlight f).mics = s.mics ∧
    (s.endFlight f).link = s.link ∧ (s.endFlight f).lines = s.lines ∧ (s.endFlight f).store = s.store ∧
    (s.endFlight f).outSlots = s.outSlots := by simp [State.endFlight]

@[simp] theorem State.finish_keeps (f : Flight) (o : MeasureOutcome) :
    (s.finish f o).pending = s.pending ∧ (s.finish f o).inputs = s.inputs ∧ (s.finish f o).clock = s.clock ∧
    (s.finish f o).pins = s.pins ∧ (s.finish f o).globals = s.globals ∧ (s.finish f o).zones = s.zones ∧
    (s.finish f o).paths = s.paths ∧ (s.finish f o).sensors = s.sensors ∧ (s.finish f o).bus = s.bus ∧
    (s.finish f o).regions = s.regions ∧ (s.finish f o).queue = s.queue ∧ (s.finish f o).mics = s.mics ∧
    (s.finish f o).lines = s.lines ∧ (s.finish f o).store = s.store ∧ (s.finish f o).outSlots = s.outSlots := by simp [State.finish]

@[simp] theorem State.abort_keeps (f : Flight) (o : MeasureOutcome) :
    (s.abort f o).pending = s.pending ∧ (s.abort f o).inputs = s.inputs ∧ (s.abort f o).clock = s.clock ∧
    (s.abort f o).pins = s.pins ∧ (s.abort f o).globals = s.globals ∧ (s.abort f o).zones = s.zones ∧
    (s.abort f o).paths = s.paths ∧ (s.abort f o).sensors = s.sensors ∧ (s.abort f o).bus = s.bus ∧
    (s.abort f o).regions = s.regions ∧ (s.abort f o).queue = s.queue ∧ (s.abort f o).mics = s.mics ∧
    (s.abort f o).lines = s.lines ∧ (s.abort f o).store = s.store ∧ (s.abort f o).outSlots = s.outSlots := by
  unfold State.abort; (repeat' split) <;> simp

@[simp] theorem State.abortWhere_keeps (p : Nat → Bool) (b : Bool) (o : MeasureOutcome) :
    (s.abortWhere p b o).pending = s.pending ∧ (s.abortWhere p b o).inputs = s.inputs ∧ (s.abortWhere p b o).clock = s.clock ∧
    (s.abortWhere p b o).pins = s.pins ∧ (s.abortWhere p b o).globals = s.globals ∧ (s.abortWhere p b o).zones = s.zones ∧
    (s.abortWhere p b o).paths = s.paths ∧ (s.abortWhere p b o).sensors = s.sensors ∧ (s.abortWhere p b o).bus = s.bus ∧
    (s.abortWhere p b o).regions = s.regions ∧ (s.abortWhere p b o).queue = s.queue ∧ (s.abortWhere p b o).mics = s.mics ∧
    (s.abortWhere p b o).lines = s.lines ∧ (s.abortWhere p b o).store = s.store ∧ (s.abortWhere p b o).outSlots = s.outSlots := by
  unfold State.abortWhere; (repeat' split) <;> simp

@[simp] theorem State.abortHold_keeps :
    (s.abortHold).pending = s.pending ∧ (s.abortHold).inputs = s.inputs ∧ (s.abortHold).clock = s.clock ∧
    (s.abortHold).pins = s.pins ∧ (s.abortHold).globals = s.globals ∧ (s.abortHold).zones = s.zones ∧
    (s.abortHold).paths = s.paths ∧ (s.abortHold).sensors = s.sensors ∧ (s.abortHold).bus = s.bus ∧
    (s.abortHold).regions = s.regions ∧ (s.abortHold).queue = s.queue ∧ (s.abortHold).mics = s.mics ∧
    (s.abortHold).lines = s.lines ∧ (s.abortHold).store = s.store ∧ (s.abortHold).outSlots = s.outSlots := by
  unfold State.abortHold; (repeat' split) <;> simp

@[simp] theorem State.abortClock_keeps :
    (s.abortClock).pending = s.pending ∧ (s.abortClock).inputs = s.inputs ∧ (s.abortClock).clock = s.clock ∧
    (s.abortClock).pins = s.pins ∧ (s.abortClock).globals = s.globals ∧ (s.abortClock).zones = s.zones ∧
    (s.abortClock).paths = s.paths ∧ (s.abortClock).sensors = s.sensors ∧ (s.abortClock).bus = s.bus ∧
    (s.abortClock).regions = s.regions ∧ (s.abortClock).queue = s.queue ∧ (s.abortClock).mics = s.mics ∧
    (s.abortClock).lines = s.lines ∧ (s.abortClock).store = s.store ∧ (s.abortClock).outSlots = s.outSlots := by
  unfold State.abortClock; (repeat' split) <;> simp

@[simp] theorem State.removeEntries_keeps (p : Entry → Bool) :
    (s.removeEntries p).pending = s.pending ∧ (s.removeEntries p).inputs = s.inputs ∧ (s.removeEntries p).clock = s.clock ∧
    (s.removeEntries p).pins = s.pins ∧ (s.removeEntries p).globals = s.globals ∧ (s.removeEntries p).zones = s.zones ∧
    (s.removeEntries p).paths = s.paths ∧ (s.removeEntries p).sensors = s.sensors ∧ (s.removeEntries p).bus = s.bus ∧
    (s.removeEntries p).regions = s.regions ∧ (s.removeEntries p).due = s.due ∧ (s.removeEntries p).flight = s.flight ∧
    (s.removeEntries p).mics = s.mics ∧ (s.removeEntries p).lines = s.lines ∧ (s.removeEntries p).store = s.store ∧
    (s.removeEntries p).outSlots = s.outSlots := by simp [State.removeEntries]

@[simp] theorem State.testQuiet_keeps :
    (s.testQuiet).pending = s.pending ∧ (s.testQuiet).inputs = s.inputs ∧ (s.testQuiet).clock = s.clock ∧
    (s.testQuiet).pins = s.pins ∧ (s.testQuiet).globals = s.globals ∧ (s.testQuiet).zones = s.zones ∧
    (s.testQuiet).paths = s.paths ∧ (s.testQuiet).sensors = s.sensors ∧ (s.testQuiet).bus = s.bus ∧
    (s.testQuiet).regions = s.regions ∧ (s.testQuiet).queue = s.queue ∧ (s.testQuiet).due = s.due ∧
    (s.testQuiet).mics = s.mics ∧ (s.testQuiet).link = s.link ∧ (s.testQuiet).lines = s.lines ∧
    (s.testQuiet).store = s.store ∧ (s.testQuiet).outSlots = s.outSlots := by
  unfold State.testQuiet; (repeat' split) <;> simp

@[simp] theorem State.deferExpires_keeps (f : Flight) :
    (s.deferExpires f).pending = s.pending ∧ (s.deferExpires f).inputs = s.inputs ∧ (s.deferExpires f).clock = s.clock ∧
    (s.deferExpires f).pins = s.pins ∧ (s.deferExpires f).globals = s.globals ∧ (s.deferExpires f).zones = s.zones ∧
    (s.deferExpires f).paths = s.paths ∧ (s.deferExpires f).sensors = s.sensors ∧ (s.deferExpires f).bus = s.bus ∧
    (s.deferExpires f).regions = s.regions ∧ (s.deferExpires f).queue = s.queue ∧ (s.deferExpires f).mics = s.mics ∧
    (s.deferExpires f).lines = s.lines ∧ (s.deferExpires f).store = s.store ∧ (s.deferExpires f).outSlots = s.outSlots := by simp [State.deferExpires]

@[simp] theorem State.dropMic_keeps (m : Nat) :
    (s.dropMic m).pending = s.pending ∧ (s.dropMic m).inputs = s.inputs ∧ (s.dropMic m).clock = s.clock ∧
    (s.dropMic m).pins = s.pins ∧ (s.dropMic m).globals = s.globals ∧ (s.dropMic m).zones = s.zones ∧
    (s.dropMic m).paths = s.paths ∧ (s.dropMic m).sensors = s.sensors ∧ (s.dropMic m).bus = s.bus ∧
    (s.dropMic m).regions = s.regions ∧ (s.dropMic m).queue = s.queue ∧ (s.dropMic m).mics = s.mics ∧
    (s.dropMic m).lines = s.lines ∧ (s.dropMic m).store = s.store ∧ (s.dropMic m).outSlots = s.outSlots := by
  unfold State.dropMic; dsimp only; (repeat' split) <;> simp

@[simp] theorem State.startEntry_keeps (e : Entry) :
    (s.startEntry e).pending = s.pending ∧ (s.startEntry e).inputs = s.inputs ∧ (s.startEntry e).clock = s.clock ∧
    (s.startEntry e).pins = s.pins ∧ (s.startEntry e).globals = s.globals ∧ (s.startEntry e).zones = s.zones ∧
    (s.startEntry e).paths = s.paths ∧ (s.startEntry e).sensors = s.sensors ∧ (s.startEntry e).bus = s.bus ∧
    (s.startEntry e).regions = s.regions ∧ (s.startEntry e).mics = s.mics ∧ (s.startEntry e).lines = s.lines ∧
    (s.startEntry e).store = s.store ∧ (s.startEntry e).outSlots = s.outSlots := by
  unfold State.startEntry; dsimp only; (repeat' split) <;> simp

/-! ### Scheduler -/

@[simp] theorem State.admit_keeps (fuel : Nat) :
    (State.admitDue fuel s).pending = s.pending ∧ (State.admitDue fuel s).inputs = s.inputs ∧ (State.admitDue fuel s).clock = s.clock ∧
    (State.admitDue fuel s).pins = s.pins ∧ (State.admitDue fuel s).globals = s.globals ∧ (State.admitDue fuel s).zones = s.zones ∧
    (State.admitDue fuel s).paths = s.paths ∧ (State.admitDue fuel s).sensors = s.sensors ∧ (State.admitDue fuel s).bus = s.bus ∧
    (State.admitDue fuel s).regions = s.regions ∧ (State.admitDue fuel s).due = s.due ∧ (State.admitDue fuel s).flight = s.flight ∧
    (State.admitDue fuel s).mics = s.mics ∧ (State.admitDue fuel s).link = s.link ∧ (State.admitDue fuel s).lines = s.lines ∧
    (State.admitDue fuel s).store = s.store ∧ (State.admitDue fuel s).outSlots = s.outSlots := by
  induction fuel generalizing s with
  | zero => simp [State.admitDue]
  | succ n ih => unfold State.admitDue; split <;> simp [ih]

@[simp] theorem State.schedule_keeps (fuel : Nat) :
    (State.schedule fuel s).pending = s.pending ∧ (State.schedule fuel s).inputs = s.inputs ∧ (State.schedule fuel s).clock = s.clock ∧
    (State.schedule fuel s).pins = s.pins ∧ (State.schedule fuel s).globals = s.globals ∧ (State.schedule fuel s).zones = s.zones ∧
    (State.schedule fuel s).paths = s.paths ∧ (State.schedule fuel s).sensors = s.sensors ∧ (State.schedule fuel s).bus = s.bus ∧
    (State.schedule fuel s).regions = s.regions ∧ (State.schedule fuel s).mics = s.mics ∧ (State.schedule fuel s).lines = s.lines ∧
    (State.schedule fuel s).store = s.store ∧ (State.schedule fuel s).outSlots = s.outSlots := by
  induction fuel generalizing s with
  | zero => simp [State.schedule]
  | succ n ih => unfold State.schedule; dsimp only; (repeat' split) <;> simp [ih]

@[simp] theorem State.settleQueue_keeps :
    (s.settleQueue).pending = s.pending ∧ (s.settleQueue).inputs = s.inputs ∧ (s.settleQueue).clock = s.clock ∧
    (s.settleQueue).pins = s.pins ∧ (s.settleQueue).globals = s.globals ∧ (s.settleQueue).zones = s.zones ∧
    (s.settleQueue).paths = s.paths ∧ (s.settleQueue).sensors = s.sensors ∧ (s.settleQueue).bus = s.bus ∧
    (s.settleQueue).regions = s.regions ∧ (s.settleQueue).mics = s.mics ∧ (s.settleQueue).lines = s.lines ∧
    (s.settleQueue).store = s.store ∧ (s.settleQueue).outSlots = s.outSlots := by simp [State.settleQueue]

@[simp] theorem State.conclude_keeps :
    (s.conclude).pending = s.pending ∧ (s.conclude).inputs = s.inputs ∧ (s.conclude).clock = s.clock ∧
    (s.conclude).pins = s.pins ∧ (s.conclude).globals = s.globals ∧ (s.conclude).zones = s.zones ∧
    (s.conclude).paths = s.paths ∧ (s.conclude).sensors = s.sensors ∧ (s.conclude).bus = s.bus ∧
    (s.conclude).regions = s.regions ∧ (s.conclude).mics = s.mics ∧ (s.conclude).lines = s.lines ∧
    (s.conclude).store = s.store ∧ (s.conclude).outSlots = s.outSlots := by simp [State.conclude]

@[simp] theorem State.mutesChanged_keeps (took was : Nat → Bool) :
    (s.mutesChanged took was).pending = s.pending ∧ (s.mutesChanged took was).inputs = s.inputs ∧ (s.mutesChanged took was).clock = s.clock ∧
    (s.mutesChanged took was).pins = s.pins ∧ (s.mutesChanged took was).globals = s.globals ∧ (s.mutesChanged took was).paths = s.paths ∧
    (s.mutesChanged took was).sensors = s.sensors ∧ (s.mutesChanged took was).bus = s.bus ∧ (s.mutesChanged took was).regions = s.regions ∧
    (s.mutesChanged took was).mics = s.mics ∧ (s.mutesChanged took was).lines = s.lines ∧ (s.mutesChanged took was).store = s.store ∧
    (s.mutesChanged took was).outSlots = s.outSlots := by simp [State.mutesChanged]

@[simp] theorem State.holdChanged_keeps (was : Bool) :
    (s.holdChanged was).pending = s.pending ∧ (s.holdChanged was).inputs = s.inputs ∧ (s.holdChanged was).clock = s.clock ∧
    (s.holdChanged was).pins = s.pins ∧ (s.holdChanged was).globals = s.globals ∧ (s.holdChanged was).zones = s.zones ∧
    (s.holdChanged was).paths = s.paths ∧ (s.holdChanged was).sensors = s.sensors ∧ (s.holdChanged was).bus = s.bus ∧
    (s.holdChanged was).regions = s.regions ∧ (s.holdChanged was).queue = s.queue ∧ (s.holdChanged was).mics = s.mics ∧
    (s.holdChanged was).lines = s.lines ∧ (s.holdChanged was).store = s.store ∧ (s.holdChanged was).outSlots = s.outSlots := by
  unfold State.holdChanged; (repeat' split) <;> simp

/-! ### Tracker -/

@[simp] theorem State.healthApply_keeps (es : List (Listen × DoneEntry)) :
    (s.healthApply es).pending = s.pending ∧ (s.healthApply es).inputs = s.inputs ∧ (s.healthApply es).clock = s.clock ∧
    (s.healthApply es).pins = s.pins ∧ (s.healthApply es).globals = s.globals ∧ (s.healthApply es).zones = s.zones ∧
    (s.healthApply es).paths = s.paths ∧ (s.healthApply es).sensors = s.sensors ∧ (s.healthApply es).bus = s.bus ∧
    (s.healthApply es).regions = s.regions ∧ (s.healthApply es).queue = s.queue ∧ (s.healthApply es).due = s.due ∧
    (s.healthApply es).flight = s.flight ∧ (s.healthApply es).link = s.link ∧ (s.healthApply es).lines = s.lines ∧
    (s.healthApply es).store = s.store ∧ (s.healthApply es).outSlots = s.outSlots := by
  unfold State.healthApply
  induction es generalizing s with
  | nil => simp
  | cons e es ih => rw [List.foldl_cons]; split <;> simp [ih]

@[simp] theorem State.tripMic_keeps (m : Nat) :
    (s.tripMic m).pending = s.pending ∧ (s.tripMic m).inputs = s.inputs ∧ (s.tripMic m).clock = s.clock ∧
    (s.tripMic m).pins = s.pins ∧ (s.tripMic m).globals = s.globals ∧ (s.tripMic m).zones = s.zones ∧
    (s.tripMic m).paths = s.paths ∧ (s.tripMic m).sensors = s.sensors ∧ (s.tripMic m).bus = s.bus ∧
    (s.tripMic m).regions = s.regions ∧ (s.tripMic m).queue = s.queue ∧ (s.tripMic m).due = s.due ∧
    (s.tripMic m).flight = s.flight ∧ (s.tripMic m).lines = s.lines ∧ (s.tripMic m).store = s.store ∧
    (s.tripMic m).outSlots = s.outSlots := by
  unfold State.tripMic; dsimp only; (repeat' split) <;> simp

theorem State.tripMics_fold_keeps (ms : List Nat) :
    (ms.foldl State.tripMic s).pending = s.pending ∧ (ms.foldl State.tripMic s).inputs = s.inputs ∧ (ms.foldl State.tripMic s).clock = s.clock ∧
    (ms.foldl State.tripMic s).pins = s.pins ∧ (ms.foldl State.tripMic s).globals = s.globals ∧ (ms.foldl State.tripMic s).zones = s.zones ∧
    (ms.foldl State.tripMic s).paths = s.paths ∧ (ms.foldl State.tripMic s).sensors = s.sensors ∧ (ms.foldl State.tripMic s).bus = s.bus ∧
    (ms.foldl State.tripMic s).regions = s.regions ∧ (ms.foldl State.tripMic s).queue = s.queue ∧ (ms.foldl State.tripMic s).due = s.due ∧
    (ms.foldl State.tripMic s).flight = s.flight ∧ (ms.foldl State.tripMic s).lines = s.lines ∧ (ms.foldl State.tripMic s).store = s.store ∧
    (ms.foldl State.tripMic s).outSlots = s.outSlots := by
  induction ms generalizing s with
  | nil => simp
  | cons m ms ih => simp [ih]

@[simp] theorem State.tripMics_keeps :
    s.tripMics.pending = s.pending ∧ s.tripMics.inputs = s.inputs ∧ s.tripMics.clock = s.clock ∧
    s.tripMics.pins = s.pins ∧ s.tripMics.globals = s.globals ∧ s.tripMics.zones = s.zones ∧
    s.tripMics.paths = s.paths ∧ s.tripMics.sensors = s.sensors ∧ s.tripMics.bus = s.bus ∧
    s.tripMics.regions = s.regions ∧ s.tripMics.queue = s.queue ∧ s.tripMics.due = s.due ∧
    s.tripMics.flight = s.flight ∧ s.tripMics.lines = s.lines ∧ s.tripMics.store = s.store ∧
    s.tripMics.outSlots = s.outSlots :=
  State.tripMics_fold_keeps s _

theorem State.dropMics_fold_keeps (ms : List Nat) :
    (ms.foldl State.dropMic s).pending = s.pending ∧ (ms.foldl State.dropMic s).inputs = s.inputs ∧ (ms.foldl State.dropMic s).clock = s.clock ∧
    (ms.foldl State.dropMic s).pins = s.pins ∧ (ms.foldl State.dropMic s).globals = s.globals ∧ (ms.foldl State.dropMic s).zones = s.zones ∧
    (ms.foldl State.dropMic s).paths = s.paths ∧ (ms.foldl State.dropMic s).sensors = s.sensors ∧ (ms.foldl State.dropMic s).bus = s.bus ∧
    (ms.foldl State.dropMic s).regions = s.regions ∧ (ms.foldl State.dropMic s).queue = s.queue ∧ (ms.foldl State.dropMic s).lines = s.lines ∧
    (ms.foldl State.dropMic s).store = s.store ∧ (ms.foldl State.dropMic s).outSlots = s.outSlots ∧ (ms.foldl State.dropMic s).mics = s.mics := by
  induction ms generalizing s with
  | nil => simp
  | cons m ms ih => simp [ih]

@[simp] theorem State.tripAndDrop_keeps :
    s.tripAndDrop.pending = s.pending ∧ s.tripAndDrop.inputs = s.inputs ∧ s.tripAndDrop.clock = s.clock ∧
    s.tripAndDrop.pins = s.pins ∧ s.tripAndDrop.globals = s.globals ∧ s.tripAndDrop.zones = s.zones ∧
    s.tripAndDrop.paths = s.paths ∧ s.tripAndDrop.sensors = s.sensors ∧ s.tripAndDrop.bus = s.bus ∧
    s.tripAndDrop.regions = s.regions ∧ s.tripAndDrop.queue = s.queue ∧ s.tripAndDrop.lines = s.lines ∧
    s.tripAndDrop.store = s.store ∧ s.tripAndDrop.outSlots = s.outSlots := by
  have h := State.dropMics_fold_keeps s.tripMics (s.wentDown s.tripMics)
  unfold State.tripAndDrop
  simp [h]

@[simp] theorem State.deafTrips_keeps (es : List DoneEntry) :
    (s.deafTrips es).pending = s.pending ∧ (s.deafTrips es).inputs = s.inputs ∧ (s.deafTrips es).clock = s.clock ∧
    (s.deafTrips es).pins = s.pins ∧ (s.deafTrips es).globals = s.globals ∧ (s.deafTrips es).zones = s.zones ∧
    (s.deafTrips es).paths = s.paths ∧ (s.deafTrips es).sensors = s.sensors ∧ (s.deafTrips es).bus = s.bus ∧
    (s.deafTrips es).regions = s.regions ∧ (s.deafTrips es).queue = s.queue ∧ (s.deafTrips es).due = s.due ∧
    (s.deafTrips es).flight = s.flight ∧ (s.deafTrips es).lines = s.lines ∧ (s.deafTrips es).store = s.store ∧
    (s.deafTrips es).outSlots = s.outSlots := by
  unfold State.deafTrips
  induction es generalizing s with
  | nil => simp
  | cons e es ih => simp [ih]

/-! ### Configure -/

@[simp] theorem State.activateZone_keeps (z : Nat) (c : ZoneCfg) :
    (s.activateZone z c).pending = s.pending ∧ (s.activateZone z c).inputs = s.inputs ∧ (s.activateZone z c).clock = s.clock ∧
    (s.activateZone z c).pins = s.pins ∧ (s.activateZone z c).globals = s.globals ∧ (s.activateZone z c).paths = s.paths ∧
    (s.activateZone z c).sensors = s.sensors ∧ (s.activateZone z c).bus = s.bus ∧ (s.activateZone z c).regions = s.regions ∧
    (s.activateZone z c).queue = s.queue ∧ (s.activateZone z c).flight = s.flight ∧ (s.activateZone z c).mics = s.mics ∧
    (s.activateZone z c).lines = s.lines ∧ (s.activateZone z c).store = s.store ∧ (s.activateZone z c).outSlots = s.outSlots := by simp [State.activateZone]

@[simp] theorem State.retrack_keeps (z : Nat) (b : Bool) :
    (s.retrack z b).pending = s.pending ∧ (s.retrack z b).inputs = s.inputs ∧ (s.retrack z b).clock = s.clock ∧
    (s.retrack z b).pins = s.pins ∧ (s.retrack z b).globals = s.globals ∧ (s.retrack z b).zones = s.zones ∧
    (s.retrack z b).paths = s.paths ∧ (s.retrack z b).sensors = s.sensors ∧ (s.retrack z b).bus = s.bus ∧
    (s.retrack z b).regions = s.regions ∧ (s.retrack z b).queue = s.queue ∧ (s.retrack z b).flight = s.flight ∧
    (s.retrack z b).mics = s.mics ∧ (s.retrack z b).link = s.link ∧ (s.retrack z b).lines = s.lines ∧
    (s.retrack z b).store = s.store ∧ (s.retrack z b).outSlots = s.outSlots := by
  unfold State.retrack; (repeat' split) <;> simp

@[simp] theorem State.reconfigureZone_keeps (z : Nat) (c : ZoneCfg) :
    (s.reconfigureZone z c).pending = s.pending ∧ (s.reconfigureZone z c).inputs = s.inputs ∧ (s.reconfigureZone z c).clock = s.clock ∧
    (s.reconfigureZone z c).pins = s.pins ∧ (s.reconfigureZone z c).globals = s.globals ∧ (s.reconfigureZone z c).paths = s.paths ∧
    (s.reconfigureZone z c).sensors = s.sensors ∧ (s.reconfigureZone z c).bus = s.bus ∧ (s.reconfigureZone z c).regions = s.regions ∧
    (s.reconfigureZone z c).mics = s.mics ∧ (s.reconfigureZone z c).lines = s.lines ∧ (s.reconfigureZone z c).store = s.store ∧
    (s.reconfigureZone z c).outSlots = s.outSlots := by simp [State.reconfigureZone]

@[simp] theorem State.retireZone_keeps (z : Nat) :
    (s.retireZone z).pending = s.pending ∧ (s.retireZone z).inputs = s.inputs ∧ (s.retireZone z).clock = s.clock ∧
    (s.retireZone z).pins = s.pins ∧ (s.retireZone z).globals = s.globals ∧ (s.retireZone z).sensors = s.sensors ∧
    (s.retireZone z).bus = s.bus ∧ (s.retireZone z).regions = s.regions ∧ (s.retireZone z).mics = s.mics ∧
    (s.retireZone z).lines = s.lines ∧ (s.retireZone z).store = s.store ∧ (s.retireZone z).outSlots = s.outSlots := by simp [State.retireZone]

@[simp] theorem State.markUnused_keeps (m : Nat) :
    (s.markUnused m).pending = s.pending ∧ (s.markUnused m).inputs = s.inputs ∧ (s.markUnused m).clock = s.clock ∧
    (s.markUnused m).pins = s.pins ∧ (s.markUnused m).globals = s.globals ∧ (s.markUnused m).zones = s.zones ∧
    (s.markUnused m).paths = s.paths ∧ (s.markUnused m).sensors = s.sensors ∧ (s.markUnused m).bus = s.bus ∧
    (s.markUnused m).regions = s.regions ∧ (s.markUnused m).queue = s.queue ∧ (s.markUnused m).due = s.due ∧
    (s.markUnused m).mics = s.mics ∧ (s.markUnused m).link = s.link ∧ (s.markUnused m).lines = s.lines ∧
    (s.markUnused m).store = s.store ∧ (s.markUnused m).outSlots = s.outSlots := by simp [State.markUnused]

@[simp] theorem State.configureMic_keeps (m : Nat) (c : MicCfg) :
    (s.configureMic m c).pending = s.pending ∧ (s.configureMic m c).inputs = s.inputs ∧ (s.configureMic m c).clock = s.clock ∧
    (s.configureMic m c).pins = s.pins ∧ (s.configureMic m c).globals = s.globals ∧ (s.configureMic m c).zones = s.zones ∧
    (s.configureMic m c).paths = s.paths ∧ (s.configureMic m c).sensors = s.sensors ∧ (s.configureMic m c).bus = s.bus ∧
    (s.configureMic m c).regions = s.regions ∧ (s.configureMic m c).queue = s.queue ∧ (s.configureMic m c).lines = s.lines ∧
    (s.configureMic m c).store = s.store ∧ (s.configureMic m c).outSlots = s.outSlots := by
  unfold State.configureMic; dsimp only; (repeat' split) <;> simp

@[simp] theorem State.dropMicPaths_keeps (m : Nat) :
    (s.dropMicPaths m).pending = s.pending ∧ (s.dropMicPaths m).inputs = s.inputs ∧ (s.dropMicPaths m).clock = s.clock ∧
    (s.dropMicPaths m).pins = s.pins ∧ (s.dropMicPaths m).globals = s.globals ∧ (s.dropMicPaths m).sensors = s.sensors ∧
    (s.dropMicPaths m).bus = s.bus ∧ (s.dropMicPaths m).regions = s.regions ∧ (s.dropMicPaths m).queue = s.queue ∧
    (s.dropMicPaths m).due = s.due ∧ (s.dropMicPaths m).flight = s.flight ∧ (s.dropMicPaths m).mics = s.mics ∧
    (s.dropMicPaths m).lines = s.lines ∧ (s.dropMicPaths m).store = s.store ∧ (s.dropMicPaths m).outSlots = s.outSlots := by simp [State.dropMicPaths]

@[simp] theorem State.supervisionSet_keeps (old : Globals) :
    (s.supervisionSet old).pending = s.pending ∧ (s.supervisionSet old).inputs = s.inputs ∧ (s.supervisionSet old).clock = s.clock ∧
    (s.supervisionSet old).pins = s.pins ∧ (s.supervisionSet old).globals = s.globals ∧ (s.supervisionSet old).zones = s.zones ∧
    (s.supervisionSet old).paths = s.paths ∧ (s.supervisionSet old).sensors = s.sensors ∧ (s.supervisionSet old).bus = s.bus ∧
    (s.supervisionSet old).regions = s.regions ∧ (s.supervisionSet old).queue = s.queue ∧ (s.supervisionSet old).due = s.due ∧
    (s.supervisionSet old).flight = s.flight ∧ (s.supervisionSet old).mics = s.mics ∧ (s.supervisionSet old).lines = s.lines ∧
    (s.supervisionSet old).store = s.store ∧ (s.supervisionSet old).outSlots = s.outSlots := by
  unfold State.supervisionSet; (repeat' split) <;> simp

@[simp] theorem State.climateSet_keeps (old : Globals) :
    (s.climateSet old).pending = s.pending ∧ (s.climateSet old).inputs = s.inputs ∧ (s.climateSet old).clock = s.clock ∧
    (s.climateSet old).pins = s.pins ∧ (s.climateSet old).globals = s.globals ∧ (s.climateSet old).paths = s.paths ∧
    (s.climateSet old).queue = s.queue ∧ (s.climateSet old).due = s.due ∧ (s.climateSet old).flight = s.flight ∧
    (s.climateSet old).mics = s.mics ∧ (s.climateSet old).lines = s.lines ∧ (s.climateSet old).store = s.store ∧
    (s.climateSet old).outSlots = s.outSlots := by
  unfold State.climateSet; dsimp only; (repeat' split) <;> simp

@[simp] theorem State.quietSet_keeps :
    (s.quietSet).pending = s.pending ∧ (s.quietSet).inputs = s.inputs ∧ (s.quietSet).clock = s.clock ∧
    (s.quietSet).pins = s.pins ∧ (s.quietSet).globals = s.globals ∧ (s.quietSet).zones = s.zones ∧
    (s.quietSet).paths = s.paths ∧ (s.quietSet).sensors = s.sensors ∧ (s.quietSet).bus = s.bus ∧
    (s.quietSet).regions = s.regions ∧ (s.quietSet).queue = s.queue ∧ (s.quietSet).mics = s.mics ∧
    (s.quietSet).lines = s.lines ∧ (s.quietSet).store = s.store ∧ (s.quietSet).outSlots = s.outSlots := by
  unfold State.quietSet; dsimp only; (repeat' split) <;> simp

/-! ### Resets -/

@[simp] theorem State.restartDueTimes_keeps :
    (s.restartDueTimes).pending = s.pending ∧ (s.restartDueTimes).inputs = s.inputs ∧ (s.restartDueTimes).clock = s.clock ∧
    (s.restartDueTimes).pins = s.pins ∧ (s.restartDueTimes).globals = s.globals ∧ (s.restartDueTimes).zones = s.zones ∧
    (s.restartDueTimes).paths = s.paths ∧ (s.restartDueTimes).sensors = s.sensors ∧ (s.restartDueTimes).bus = s.bus ∧
    (s.restartDueTimes).regions = s.regions ∧ (s.restartDueTimes).queue = s.queue ∧ (s.restartDueTimes).flight = s.flight ∧
    (s.restartDueTimes).mics = s.mics ∧ (s.restartDueTimes).link = s.link ∧ (s.restartDueTimes).lines = s.lines ∧
    (s.restartDueTimes).store = s.store ∧ (s.restartDueTimes).outSlots = s.outSlots := by simp [State.restartDueTimes]

@[simp] theorem State.alignCore_keeps :
    (s.alignCore).pending = s.pending ∧ (s.alignCore).inputs = s.inputs ∧ (s.alignCore).clock = s.clock ∧
    (s.alignCore).pins = s.pins ∧ (s.alignCore).globals = s.globals ∧ (s.alignCore).sensors = s.sensors ∧
    (s.alignCore).bus = s.bus ∧ (s.alignCore).regions = s.regions ∧ (s.alignCore).lines = s.lines ∧
    (s.alignCore).store = s.store ∧ (s.alignCore).outSlots = s.outSlots := by simp [State.alignCore]

@[simp] theorem State.alignReset_keeps :
    (s.alignReset).pending = s.pending ∧ (s.alignReset).inputs = s.inputs ∧ (s.alignReset).clock = s.clock ∧
    (s.alignReset).pins = s.pins ∧ (s.alignReset).globals = s.globals ∧ (s.alignReset).sensors = s.sensors ∧
    (s.alignReset).bus = s.bus ∧ (s.alignReset).regions = s.regions ∧ (s.alignReset).lines = s.lines ∧
    (s.alignReset).store = s.store ∧ (s.alignReset).outSlots = s.outSlots := by simp [State.alignReset]

@[simp] theorem State.loadLines_keeps (im : Image) :
    (s.loadLines im).pending = s.pending ∧ (s.loadLines im).inputs = s.inputs ∧ (s.loadLines im).clock = s.clock ∧
    (s.loadLines im).pins = s.pins ∧ (s.loadLines im).globals = s.globals ∧ (s.loadLines im).zones = s.zones ∧
    (s.loadLines im).paths = s.paths ∧ (s.loadLines im).sensors = s.sensors ∧ (s.loadLines im).bus = s.bus ∧
    (s.loadLines im).regions = s.regions ∧ (s.loadLines im).queue = s.queue ∧ (s.loadLines im).due = s.due ∧
    (s.loadLines im).flight = s.flight ∧ (s.loadLines im).mics = s.mics ∧ (s.loadLines im).link = s.link ∧
    (s.loadLines im).store = s.store ∧ (s.loadLines im).outSlots = s.outSlots := by simp [State.loadLines]

@[simp] theorem State.loadZones_keeps (im : Image) :
    (s.loadZones im).pending = s.pending ∧ (s.loadZones im).inputs = s.inputs ∧ (s.loadZones im).clock = s.clock ∧
    (s.loadZones im).pins = s.pins ∧ (s.loadZones im).globals = s.globals ∧ (s.loadZones im).paths = s.paths ∧
    (s.loadZones im).sensors = s.sensors ∧ (s.loadZones im).bus = s.bus ∧ (s.loadZones im).regions = s.regions ∧
    (s.loadZones im).queue = s.queue ∧ (s.loadZones im).due = s.due ∧ (s.loadZones im).flight = s.flight ∧
    (s.loadZones im).mics = s.mics ∧ (s.loadZones im).link = s.link ∧ (s.loadZones im).lines = s.lines ∧
    (s.loadZones im).store = s.store ∧ (s.loadZones im).outSlots = s.outSlots := by simp [State.loadZones]

@[simp] theorem State.loadDue_keeps (b : Nat → Bool) :
    (s.loadDue b).pending = s.pending ∧ (s.loadDue b).inputs = s.inputs ∧ (s.loadDue b).clock = s.clock ∧
    (s.loadDue b).pins = s.pins ∧ (s.loadDue b).globals = s.globals ∧ (s.loadDue b).zones = s.zones ∧
    (s.loadDue b).paths = s.paths ∧ (s.loadDue b).sensors = s.sensors ∧ (s.loadDue b).bus = s.bus ∧
    (s.loadDue b).regions = s.regions ∧ (s.loadDue b).queue = s.queue ∧ (s.loadDue b).flight = s.flight ∧
    (s.loadDue b).mics = s.mics ∧ (s.loadDue b).link = s.link ∧ (s.loadDue b).lines = s.lines ∧
    (s.loadDue b).store = s.store ∧ (s.loadDue b).outSlots = s.outSlots := by simp [State.loadDue]

@[simp] theorem State.loadMics_keeps (im : Image) :
    (s.loadMics im).pending = s.pending ∧ (s.loadMics im).inputs = s.inputs ∧ (s.loadMics im).clock = s.clock ∧
    (s.loadMics im).pins = s.pins ∧ (s.loadMics im).globals = s.globals ∧ (s.loadMics im).zones = s.zones ∧
    (s.loadMics im).paths = s.paths ∧ (s.loadMics im).sensors = s.sensors ∧ (s.loadMics im).bus = s.bus ∧
    (s.loadMics im).regions = s.regions ∧ (s.loadMics im).queue = s.queue ∧ (s.loadMics im).lines = s.lines ∧
    (s.loadMics im).store = s.store ∧ (s.loadMics im).outSlots = s.outSlots := by
  unfold State.loadMics
  generalize List.range 16 = ms
  induction ms generalizing s with
  | nil => simp
  | cons m ms ih => simp [ih]

@[simp] theorem State.openLoaded_keeps (b : Nat → Bool) :
    (s.openLoaded b).pending = s.pending ∧ (s.openLoaded b).inputs = s.inputs ∧ (s.openLoaded b).clock = s.clock ∧
    (s.openLoaded b).pins = s.pins ∧ (s.openLoaded b).globals = s.globals ∧ (s.openLoaded b).paths = s.paths ∧
    (s.openLoaded b).sensors = s.sensors ∧ (s.openLoaded b).bus = s.bus ∧ (s.openLoaded b).regions = s.regions ∧
    (s.openLoaded b).queue = s.queue ∧ (s.openLoaded b).due = s.due ∧ (s.openLoaded b).flight = s.flight ∧
    (s.openLoaded b).mics = s.mics ∧ (s.openLoaded b).link = s.link ∧ (s.openLoaded b).lines = s.lines ∧
    (s.openLoaded b).store = s.store ∧ (s.openLoaded b).outSlots = s.outSlots := by simp [State.openLoaded]

@[simp] theorem State.openAll_keeps :
    (s.openAll).pending = s.pending ∧ (s.openAll).inputs = s.inputs ∧ (s.openAll).clock = s.clock ∧
    (s.openAll).pins = s.pins ∧ (s.openAll).globals = s.globals ∧ (s.openAll).paths = s.paths ∧
    (s.openAll).sensors = s.sensors ∧ (s.openAll).bus = s.bus ∧ (s.openAll).regions = s.regions ∧
    (s.openAll).queue = s.queue ∧ (s.openAll).due = s.due ∧ (s.openAll).flight = s.flight ∧
    (s.openAll).mics = s.mics ∧ (s.openAll).link = s.link ∧ (s.openAll).lines = s.lines ∧
    (s.openAll).store = s.store ∧ (s.openAll).outSlots = s.outSlots := by simp [State.openAll]

@[simp] theorem State.loadGlobals_keeps (g : Globals) :
    (s.loadGlobals g).pending = s.pending ∧ (s.loadGlobals g).inputs = s.inputs ∧ (s.loadGlobals g).clock = s.clock ∧
    (s.loadGlobals g).pins = s.pins ∧ (s.loadGlobals g).zones = s.zones ∧ (s.loadGlobals g).paths = s.paths ∧
    (s.loadGlobals g).bus = s.bus ∧ (s.loadGlobals g).regions = s.regions ∧ (s.loadGlobals g).queue = s.queue ∧
    (s.loadGlobals g).due = s.due ∧ (s.loadGlobals g).flight = s.flight ∧ (s.loadGlobals g).mics = s.mics ∧
    (s.loadGlobals g).lines = s.lines ∧ (s.loadGlobals g).store = s.store ∧ (s.loadGlobals g).outSlots = s.outSlots := by
  unfold State.loadGlobals; dsimp only; (repeat' split) <;> simp

@[simp] theorem State.takeLines_keeps (im : Image) :
    (s.takeLines im).pending = s.pending ∧ (s.takeLines im).inputs = s.inputs ∧ (s.takeLines im).clock = s.clock ∧
    (s.takeLines im).pins = s.pins ∧ (s.takeLines im).globals = s.globals ∧ (s.takeLines im).paths = s.paths ∧
    (s.takeLines im).sensors = s.sensors ∧ (s.takeLines im).bus = s.bus ∧ (s.takeLines im).regions = s.regions ∧
    (s.takeLines im).mics = s.mics ∧ (s.takeLines im).store = s.store ∧ (s.takeLines im).outSlots = s.outSlots := by simp [State.takeLines]

@[simp] theorem State.loadSensors_keeps (im : Image) :
    ((s.loadSensors im).1).pending = s.pending ∧ ((s.loadSensors im).1).inputs = s.inputs ∧ ((s.loadSensors im).1).clock = s.clock ∧
    ((s.loadSensors im).1).pins = s.pins ∧ ((s.loadSensors im).1).globals = s.globals ∧ ((s.loadSensors im).1).zones = s.zones ∧
    ((s.loadSensors im).1).paths = s.paths ∧ ((s.loadSensors im).1).regions = s.regions ∧ ((s.loadSensors im).1).queue = s.queue ∧
    ((s.loadSensors im).1).due = s.due ∧ ((s.loadSensors im).1).flight = s.flight ∧ ((s.loadSensors im).1).mics = s.mics ∧
    ((s.loadSensors im).1).lines = s.lines ∧ ((s.loadSensors im).1).store = s.store ∧ ((s.loadSensors im).1).outSlots = s.outSlots := by
  unfold State.loadSensors
  generalize List.range 8 = ns
  generalize hx : ((s, []) : State × List Nat) = x
  have h : x.1 = s := by rw [← hx]
  rw [← h]; clear h hx
  induction ns generalizing x with
  | nil => simp
  | cons n ns ih => simp only [List.foldl_cons, ih]; simp

@[simp] theorem State.takeSensors_keeps (im : Image) (d : Nat) :
    (s.takeSensors im d).pending = s.pending ∧ (s.takeSensors im d).inputs = s.inputs ∧ (s.takeSensors im d).clock = s.clock ∧
    (s.takeSensors im d).pins = s.pins ∧ (s.takeSensors im d).globals = s.globals ∧ (s.takeSensors im d).zones = s.zones ∧
    (s.takeSensors im d).paths = s.paths ∧ (s.takeSensors im d).queue = s.queue ∧ (s.takeSensors im d).due = s.due ∧
    (s.takeSensors im d).flight = s.flight ∧ (s.takeSensors im d).mics = s.mics ∧ (s.takeSensors im d).lines = s.lines ∧
    (s.takeSensors im d).store = s.store ∧ (s.takeSensors im d).outSlots = s.outSlots := by simp [State.takeSensors]

@[simp] theorem State.takeZones_keeps (im : Image) :
    (s.takeZones im).pending = s.pending ∧ (s.takeZones im).inputs = s.inputs ∧ (s.takeZones im).clock = s.clock ∧
    (s.takeZones im).pins = s.pins ∧ (s.takeZones im).globals = s.globals ∧ (s.takeZones im).paths = s.paths ∧
    (s.takeZones im).sensors = s.sensors ∧ (s.takeZones im).bus = s.bus ∧ (s.takeZones im).regions = s.regions ∧
    (s.takeZones im).mics = s.mics ∧ (s.takeZones im).lines = s.lines ∧ (s.takeZones im).store = s.store ∧
    (s.takeZones im).outSlots = s.outSlots := by simp [State.takeZones]

end Sys2Proof.Machine
end

