-- ==== Sys2Proof/Laws/Raises.lean ====
section
/-! SUPPORT. What each shared operation does to the control link: it raises some notices and leaves the rest of the link
alone; where it leaves a lapse, the supervision state and the timer are the only other fields it writes. -/

namespace Sys2Proof.Machine

/-! ### Notices raised -/

theorem Link.noted_append (l : Link) (ns ms : List Notice) : l.noted (ns ++ ms) = (l.noted ns).noted ms := by
  simp [Link.noted]

/-- A raised notice touches the outbox and the dropped flag alone. -/
theorem Link.raise_eq (l : Link) (n : Notice) :
    l.raise n = { l with outbox := (l.raise n).outbox, dropped := (l.raise n).dropped } := by
  unfold Link.raise; split <;> rfl

theorem Link.noted_eq (l : Link) (ns : List Notice) :
    l.noted ns = { l with outbox := (l.noted ns).outbox, dropped := (l.noted ns).dropped } := by
  induction ns generalizing l with
  | nil => rfl
  | cons n ns ih =>
    have h : l.noted (n :: ns) = (l.raise n).noted ns := rfl
    rw [h]
    refine (ih (l.raise n)).trans ?_
    generalize (l.raise n).noted ns = x
    unfold Link.raise; split <;> rfl

/-- What was waiting in the outbox waits still, in its order and before what was raised. -/
theorem Link.noted_prefix (l : Link) (ns : List Notice) : l.outbox <+: (l.noted ns).outbox := by
  induction ns generalizing l with
  | nil => exact List.prefix_rfl
  | cons n ns ih =>
    refine List.IsPrefix.trans ?_ (ih (l.raise n))
    unfold Link.raise; split
    · exact List.prefix_append _ _
    · exact List.prefix_rfl

/-- The outbox holds at most 32 notices (R179). -/
theorem Link.noted_length (l : Link) (ns : List Notice) (h : l.outbox.length ≤ 32) : (l.noted ns).outbox.length ≤ 32 := by
  induction ns generalizing l with
  | nil => exact h
  | cons n ns ih =>
    refine ih _ ?_
    unfold Link.raise; split
    · simp; omega
    · exact h

/-- Raising notices commutes with a change of what it does not touch. -/
theorem Link.noted_supervision (l : Link) (ns : List Notice) (x : Supervision) (n : Nat) :
    ({ l with supervision := x, timerFrom := n } : Link).noted ns = { l.noted ns with supervision := x, timerFrom := n } := by
  induction ns generalizing l with
  | nil => rfl
  | cons a ns ih =>
    have h : ({ l with supervision := x, timerFrom := n } : Link).raise a = { l.raise a with supervision := x, timerFrom := n } := by
      unfold Link.raise; split <;> rfl
    have h1 : ∀ k : Link, k.noted (a :: ns) = (k.raise a).noted ns := fun _ => rfl
    rw [h1, h1, h, ih]

theorem Link.noted_commands (l : Link) (ns : List Notice) (x : List RxCommand) :
    ({ l with commands := x } : Link).noted ns = { l.noted ns with commands := x } := by
  induction ns generalizing l with
  | nil => rfl
  | cons a ns ih =>
    have h : ({ l with commands := x } : Link).raise a = { l.raise a with commands := x } := by
      unfold Link.raise; split <;> rfl
    have h1 : ∀ k : Link, k.noted (a :: ns) = (k.raise a).noted ns := fun _ => rfl
    rw [h1, h1, h, ih]

/-- From state `s` to state `t` the link differs by raised notices alone. -/
def State.Raises (s t : State) : Prop := ∃ ns, t.link = s.link.noted ns

namespace State

variable {s t u : State}

theorem Raises.same : s.Raises s := ⟨[], rfl⟩
theorem Raises.of_eq (h : t.link = s.link) : s.Raises t := ⟨[], h⟩
theorem Raises.trans (h : s.Raises t) (k : t.Raises u) : s.Raises u := by
  obtain ⟨ns, h⟩ := h
  obtain ⟨ms, k⟩ := k
  exact ⟨ns ++ ms, by rw [k, h, Link.noted_append]⟩
theorem Raises.kept (h : s.Raises t) (k : u.link = t.link) : s.Raises u := h.trans (.of_eq k)

/-! ### Operations that leave the link alone -/

theorem Raises.withPending {x : List Instr} (h : s.Raises t) : s.Raises (t.withPending x) := h.kept (by simp)
theorem Raises.withClock {x : Clock} (h : s.Raises t) : s.Raises (t.withClock x) := h.kept (by simp)
theorem Raises.withPins {x : Pins} (h : s.Raises t) : s.Raises (t.withPins x) := h.kept (by simp)
theorem Raises.withGlobals {x : Globals} (h : s.Raises t) : s.Raises (t.withGlobals x) := h.kept (by simp)
theorem Raises.withZones {x : Vector Zone 48} (h : s.Raises t) : s.Raises (t.withZones x) := h.kept (by simp)
theorem Raises.withPaths {x : List Path} (h : s.Raises t) : s.Raises (t.withPaths x) := h.kept (by simp)
theorem Raises.withSensors {x : Vector Sensor 8} (h : s.Raises t) : s.Raises (t.withSensors x) := h.kept (by simp)
theorem Raises.withBus {x : Bus} (h : s.Raises t) : s.Raises (t.withBus x) := h.kept (by simp)
theorem Raises.withRegions {x : Vector Region 8} (h : s.Raises t) : s.Raises (t.withRegions x) := h.kept (by simp)
theorem Raises.withQueue {x : List Entry} (h : s.Raises t) : s.Raises (t.withQueue x) := h.kept (by simp)
theorem Raises.withDue {x : Vector (Option Nat) 48} (h : s.Raises t) : s.Raises (t.withDue x) := h.kept (by simp)
theorem Raises.withFlight {x : Option Flight} (h : s.Raises t) : s.Raises (t.withFlight x) := h.kept (by simp)
theorem Raises.withMics {x : Vector Mic 16} (h : s.Raises t) : s.Raises (t.withMics x) := h.kept (by simp)
theorem Raises.withLines {x : Vector Line 6} (h : s.Raises t) : s.Raises (t.withLines x) := h.kept (by simp)
theorem Raises.withStore {x : Store} (h : s.Raises t) : s.Raises (t.withStore x) := h.kept (by simp)
theorem Raises.setZone {z : Nat} {x : Zone} (h : s.Raises t) : s.Raises (t.setZone z x) := h.kept (by simp)
theorem Raises.setMic {m : Nat} {x : Mic} (h : s.Raises t) : s.Raises (t.setMic m x) := h.kept (by simp)
theorem Raises.setSensor {n : Nat} {x : Sensor} (h : s.Raises t) : s.Raises (t.setSensor n x) := h.kept (by simp)
theorem Raises.setRegion {r : Nat} {x : Region} (h : s.Raises t) : s.Raises (t.setRegion r x) := h.kept (by simp)
theorem Raises.setLine {l : Nat} {x : Line} (h : s.Raises t) : s.Raises (t.setLine l x) := h.kept (by simp)
theorem Raises.setDue {z : Nat} {x : Option Nat} (h : s.Raises t) : s.Raises (t.setDue z x) := h.kept (by simp)
theorem Raises.reach {n : Nat} (h : s.Raises t) : s.Raises (t.reach n) := h.kept (by simp)
theorem Raises.reformSets {sel : Nat → Bool} (h : s.Raises t) : s.Raises (t.reformSets sel) := h.kept (by simp)
theorem Raises.voidPoll {n : Nat} (h : s.Raises t) : s.Raises (t.voidPoll n) := h.kept (by simp)
theorem Raises.startPoll (h : s.Raises t) : s.Raises (t.startPoll) := h.kept (by simp)
theorem Raises.freeBus (h : s.Raises t) : s.Raises (t.freeBus) := h.kept (by simp)
theorem Raises.republishDefault {r : Nat} (h : s.Raises t) : s.Raises (t.republishDefault r) := h.kept (by simp)
theorem Raises.restartDue {z : Nat} (h : s.Raises t) : s.Raises (t.restartDue z) := h.kept (by simp)
theorem Raises.endFlight {f : Flight} (h : s.Raises t) : s.Raises (t.endFlight f) := h.kept (by simp)
theorem Raises.testQuiet (h : s.Raises t) : s.Raises (t.testQuiet) := h.kept (by simp)
theorem Raises.retrack {z : Nat} {b : Bool} (h : s.Raises t) : s.Raises (t.retrack z b) := h.kept (by simp)
theorem Raises.healthApply {es : List (Listen × DoneEntry)} (h : s.Raises t) : s.Raises (t.healthApply es) := h.kept (by simp)
theorem Raises.send {out : List BusSignal} (h : s.Raises t) : s.Raises (t.send out) := h.kept (by simp)
theorem Raises.reschedule (h : s.Raises t) : s.Raises (t.reschedule) := h.kept (by simp)
theorem Raises.markUnused {m : Nat} (h : s.Raises t) : s.Raises (t.markUnused m) := h.kept (by simp)
theorem Raises.restartDueTimes (h : s.Raises t) : s.Raises (t.restartDueTimes) := h.kept (by simp)
theorem Raises.loadLines {im : Image} (h : s.Raises t) : s.Raises (t.loadLines im) := h.kept (by simp)
theorem Raises.loadZones {im : Image} (h : s.Raises t) : s.Raises (t.loadZones im) := h.kept (by simp)
theorem Raises.loadDue {b : Nat → Bool} (h : s.Raises t) : s.Raises (t.loadDue b) := h.kept (by simp)
theorem Raises.openLoaded {b : Nat → Bool} (h : s.Raises t) : s.Raises (t.openLoaded b) := h.kept (by simp)
theorem Raises.openAll (h : s.Raises t) : s.Raises (t.openAll) := h.kept (by simp)
theorem Raises.admitDue {n : Nat} (h : s.Raises t) : s.Raises (State.admitDue n t) := h.kept (by simp)

/-! ### Ops and solver -/

theorem Raises.raise {n : Notice} (h : s.Raises t) : s.Raises (t.raise n) := h.trans ⟨[n], rfl⟩

theorem raiseAll_link (t : State) (ns : List Notice) : (t.raiseAll ns).link = t.link.noted ns := by
  unfold State.raiseAll Link.noted
  induction ns generalizing t with
  | nil => rfl
  | cons n ns ih => exact ih (t.raise n)

theorem Raises.raiseAll {ns : List Notice} (h : s.Raises t) : s.Raises (t.raiseAll ns) :=
  h.trans ⟨ns, t.raiseAll_link ns⟩

theorem Raises.adopt {zs : Vector Zone 48} (h : s.Raises t) : s.Raises (t.adopt zs) := h.withZones.raiseAll

theorem Raises.recompute {sel : Nat → Bool} (h : s.Raises t) : s.Raises (t.recompute sel) := by
  unfold State.recompute; split
  · exact h
  · exact h.adopt

theorem Raises.pathsChanged {keys : List (Nat × Nat)} (h : s.Raises t) : s.Raises (t.pathsChanged keys) :=
  h.reformSets.recompute

theorem Raises.regionsChanged {old : Vector Region 8} (h : s.Raises t) : s.Raises (t.regionsChanged old) :=
  h.reformSets.recompute

/-! ### Climate unit -/

theorem Raises.noteSensor {n : Nat} {prev : SensorState} (h : s.Raises t) : s.Raises (t.noteSensor n prev) := by
  unfold State.noteSensor; split
  · exact h
  · exact h.raise

theorem Raises.enterRegion {r : Nat} {x : Region} (h : s.Raises t) : s.Raises (t.enterRegion r x) := by
  unfold State.enterRegion; dsimp only; split
  · exact h.setRegion
  · exact h.setRegion.raise

theorem Raises.reevaluate {r : Nat} (h : s.Raises t) : s.Raises (t.reevaluate r) := by
  unfold State.reevaluate; dsimp only; split <;> first | exact h | exact h.enterRegion

theorem Raises.enterDefault {r : Nat} (h : s.Raises t) : s.Raises (t.enterDefault r) := h.enterRegion

theorem Raises.foldl {α : Type} {f : State → α → State} (step : ∀ (u : State) (a : α), s.Raises u → s.Raises (f u a))
    (xs : List α) (h : s.Raises t) : s.Raises (xs.foldl f t) := by
  induction xs generalizing t with
  | nil => exact h
  | cons x xs ih => exact ih (step _ _ h)

theorem Raises.reevaluateAll {rs : List Nat} (h : s.Raises t) : s.Raises (t.reevaluateAll rs) :=
  Raises.foldl (fun _ _ k => k.reevaluate) rs h

theorem Raises.configureSensor {n : Nat} {c : SensorCfg} (h : s.Raises t) : s.Raises (t.configureSensor n c) := by
  unfold State.configureSensor; dsimp only; split
  · exact h.voidPoll.setSensor.noteSensor
  · exact h.setSensor.noteSensor

theorem Raises.lostFresh {old : Sensor} (h : s.Raises t) : s.Raises (t.lostFresh old) := by
  unfold State.lostFresh; split
  · exact h.reevaluate.regionsChanged
  · exact h

theorem Raises.goodRead {n : Nat} {temp : Int} {hum : Nat} (h : s.Raises t) : s.Raises (t.goodRead n temp hum) :=
  h.setSensor.noteSensor.reevaluate.regionsChanged

theorem Raises.countedFailure {n : Nat} {k : FailKind} (h : s.Raises t) : s.Raises (t.countedFailure n k) := by
  unfold State.countedFailure; dsimp only; split
  · exact h.setSensor.noteSensor.lostFresh
  · exact h.setSensor

theorem Raises.makeStale {n : Nat} (h : s.Raises t) : s.Raises (t.makeStale n) := h.setSensor.noteSensor

theorem Raises.attemptFailed {p : Poll} {k : FailKind} (h : s.Raises t) : s.Raises (t.attemptFailed p k) := by
  unfold State.attemptFailed; (repeat' split)
  · exact h.freeBus
  · exact h.freeBus.countedFailure
  · exact h.withBus

theorem Raises.attemptRead {p : Poll} {temp : Int} {hum : Nat} (h : s.Raises t) :
    s.Raises (t.attemptRead p temp hum) := by
  unfold State.attemptRead; split
  · exact h.freeBus
  · exact h.freeBus.goodRead

theorem Raises.pollChanged (h : s.Raises t) : s.Raises t.pollChanged.1 :=
  Raises.foldl (fun _ _ k => k.makeStale) _ h.withSensors

theorem Raises.settleLoaded {touched : List Nat} {d : Nat} (h : s.Raises t) : s.Raises (t.settleLoaded touched d) :=
  Raises.foldl (fun _ _ k => k.republishDefault) _ h.withGlobals.reevaluateAll.withGlobals

theorem Raises.settleRegions {touched : List Nat} (h : s.Raises t) : s.Raises (t.settleRegions touched) := by
  refine Raises.foldl (fun u r k => ?_) _ h
  dsimp only; split <;> split
  · exact k.reevaluate.enterDefault.republishDefault
  · exact k.reevaluate.republishDefault
  · exact k.enterDefault.republishDefault
  · exact k.republishDefault

/-! ### Engine and scheduler -/

theorem Raises.finish {f : Flight} {o : MeasureOutcome} (h : s.Raises t) : s.Raises (t.finish f o) := h.raise.endFlight

theorem Raises.abort {f : Flight} {o : MeasureOutcome} (h : s.Raises t) : s.Raises (t.abort f o) := by
  unfold State.abort; (repeat' split) <;> first | exact h | exact h.finish

theorem Raises.abortWhere {p : Nat → Bool} {b : Bool} {o : MeasureOutcome} (h : s.Raises t) :
    s.Raises (t.abortWhere p b o) := by
  unfold State.abortWhere; (repeat' split) <;> first | exact h | exact h.abort

theorem Raises.abortHold (h : s.Raises t) : s.Raises t.abortHold := by
  unfold State.abortHold; (repeat' split) <;> first | exact h | exact h.abort

theorem Raises.abortClock (h : s.Raises t) : s.Raises t.abortClock := by
  unfold State.abortClock; split <;> first | exact h | exact h.finish

theorem Raises.removeEntries {p : Entry → Bool} (h : s.Raises t) : s.Raises (t.removeEntries p) := h.withQueue.raiseAll

theorem Raises.deferExpires {f : Flight} (h : s.Raises t) : s.Raises (t.deferExpires f) := h.finish

theorem Raises.dropMic {m : Nat} (h : s.Raises t) : s.Raises (t.dropMic m) := by
  unfold State.dropMic; dsimp only; (repeat' split) <;> first | exact h | exact h.finish

theorem Raises.startEntry {e : Entry} (h : s.Raises t) : s.Raises (t.startEntry e) := by
  unfold State.startEntry; dsimp only; split
  · exact h.withQueue.finish
  · exact h.withQueue.withFlight.testQuiet

theorem Raises.schedule {n : Nat} (h : s.Raises t) : s.Raises (State.schedule n t) := by
  induction n generalizing t with
  | zero => exact h
  | succ n ih =>
    have k : s.Raises (if t.arbiterReady then
        (match t.nextEntry with | some e => t.startEntry e | none => t) else t) := by
      (repeat' split) <;> first | exact h | exact h.startEntry
    unfold State.schedule
    exact iteInduction (fun _ => ih k.admitDue) fun _ => k.admitDue

theorem Raises.settleQueue (h : s.Raises t) : s.Raises t.settleQueue := h.schedule

theorem Raises.mutesChanged {took was : Nat → Bool} (h : s.Raises t) : s.Raises (t.mutesChanged took was) :=
  h.withZones.abortWhere.removeEntries

theorem Raises.holdChanged {was : Bool} (h : s.Raises t) : s.Raises (t.holdChanged was) := by
  unfold State.holdChanged; split <;> first | exact h | exact h.abortHold

/-! ### Microphones, zones, settings -/

theorem Raises.tripMic {m : Nat} (h : s.Raises t) : s.Raises (t.tripMic m) := by
  unfold State.tripMic; dsimp only; (repeat' split)
  · exact h
  · exact h.setMic
  · exact h.setMic.raise

theorem Raises.tripMics (h : s.Raises t) : s.Raises t.tripMics := Raises.foldl (fun _ _ k => k.tripMic) _ h

theorem Raises.tripAndDrop (h : s.Raises t) : s.Raises t.tripAndDrop := Raises.foldl (fun _ _ k => k.dropMic) _ h.tripMics

theorem Raises.deafTrips {es : List DoneEntry} (h : s.Raises t) : s.Raises (t.deafTrips es) :=
  Raises.foldl (fun _ _ k => k.tripMic) es h

theorem Raises.activateZone {z : Nat} {c : ZoneCfg} (h : s.Raises t) : s.Raises (t.activateZone z c) :=
  h.setZone.recompute.setZone.restartDue

theorem Raises.reconfigureZone {z : Nat} {c : ZoneCfg} (h : s.Raises t) : s.Raises (t.reconfigureZone z c) :=
  h.abortWhere.removeEntries.setZone.reformSets.recompute.retrack

theorem Raises.retireZone {z : Nat} (h : s.Raises t) : s.Raises (t.retireZone z) :=
  h.abortWhere.removeEntries.withPaths.setZone.setDue

theorem Raises.configureMic {m : Nat} {c : MicCfg} (h : s.Raises t) : s.Raises (t.configureMic m c) := by
  unfold State.configureMic; dsimp only; split
  · exact h.setMic.markUnused.dropMic
  · exact h.setMic

theorem Raises.dropMicPaths {m : Nat} (h : s.Raises t) : s.Raises (t.dropMicPaths m) := h.withPaths.pathsChanged

theorem Raises.climateSet {old : Globals} (h : s.Raises t) : s.Raises (t.climateSet old) := by
  unfold State.climateSet; dsimp only; (repeat' split)
  · exact h.settleRegions.regionsChanged.startPoll
  · exact h.pollChanged.settleRegions.regionsChanged.startPoll
  · exact h

theorem Raises.quietSet (h : s.Raises t) : s.Raises t.quietSet := by
  unfold State.quietSet; dsimp only; (repeat' split) <;> first | exact h.testQuiet.deferExpires | exact h.testQuiet

theorem Raises.loadMics {im : Image} (h : s.Raises t) : s.Raises (t.loadMics im) :=
  Raises.foldl (fun _ _ k => k.configureMic) _ h

/-! ### Operations that leave a lapse -/

/-- From state `s` to state `t` the link differs by raised notices, the supervision state and its timer alone. -/
def RaisesAndWatches (s t : State) : Prop :=
  ∃ ns, t.link = { s.link.noted ns with supervision := t.link.supervision, timerFrom := t.link.timerFrom }

theorem Raises.watches (h : s.Raises t) : s.RaisesAndWatches t := by
  obtain ⟨ns, h⟩ := h
  exact ⟨ns, by rw [h]⟩

theorem RaisesAndWatches.trans (h : s.RaisesAndWatches t) (k : t.RaisesAndWatches u) : s.RaisesAndWatches u := by
  obtain ⟨ns, h⟩ := h
  obtain ⟨ms, k⟩ := k
  refine ⟨ns ++ ms, ?_⟩
  rw [k, h, Link.noted_append, Link.noted_supervision]

/-- Notices raised after a lapse was left. -/
theorem RaisesAndWatches.then (h : s.RaisesAndWatches t) (k : t.Raises u) : s.RaisesAndWatches u := h.trans k.watches

theorem RaisesAndWatches.startWatching (h : s.RaisesAndWatches t) : s.RaisesAndWatches t.startWatching :=
  h.trans ⟨[], rfl⟩

theorem RaisesAndWatches.leaveLapse (h : s.RaisesAndWatches t) : s.RaisesAndWatches t.leaveLapse := by
  unfold State.leaveLapse; split
  · exact (h.then Raises.same.withZones).startWatching
  · exact h.startWatching
  · exact h

theorem RaisesAndWatches.supervisionSet {old : Globals} (h : s.RaisesAndWatches t) :
    s.RaisesAndWatches (t.supervisionSet old) := by
  unfold State.supervisionSet; (repeat' split) <;> first | exact h | exact h.startWatching

theorem RaisesAndWatches.alignCore (h : s.RaisesAndWatches t) : s.RaisesAndWatches t.alignCore :=
  (h.then Raises.same.withQueue.abortWhere.withPaths.withMics).leaveLapse.then Raises.same.restartDueTimes

theorem RaisesAndWatches.alignReset (h : s.RaisesAndWatches t) : s.RaisesAndWatches t.alignReset :=
  h.alignCore.then Raises.same.recompute

end State

end Sys2Proof.Machine
end

