-- ==== Sys2Proof/Laws/Commands.lean ====
section
/-! SUPPORT. What the handling of a command gives: one theorem for a refused or reporting command, one for a command with
an effect. A caller cites them and does not unfold the handling. -/

namespace Sys2Proof.Machine

theorem takeCommand_free {s : State} (hf : s.handlerFree) (c : RxCommand) : s.takeCommand c = s.taking c := by
  simp [State.takeCommand, State.taking, Link.freeSlot, hf.1]

/-- Placing a reply into the empty slot and the transmitter's next turn. -/
theorem placeReply_settleTx {s : State} (h : s.link.reply = none) (c : RxCommand) (a : Answer) :
    (s.placeReply c a).settleTx = s.withLink (s.link.placed (c.replyWith a)) := by
  obtain ⟨l, hl⟩ : ∃ l, s.link = l := ⟨_, rfl⟩
  obtain ⟨rx, rxLine, ab, bc, ov, fo, cmds, reply, tx, outbox, dropped, speed, resetting, sup, timer, good⟩ := l
  rw [hl] at h
  simp only at h
  subst h
  cases tx <;>
    simp [State.placeReply, State.settleTx, Link.transmit, Link.placed, RxCommand.replyWith, State.withLink, hl]

/-- The handling of a command by a free handler. -/
theorem handle_free {s : State} (hf : s.handlerFree) (c : RxCommand) (ok : Bool) (h : State → State × Answer) :
    handle c ok h s =
      (((if ok then h (s.taking c) else (s.taking c, refusal .badLength)).1.placeReply c
        (if ok then h (s.taking c) else (s.taking c, refusal .badLength)).2)).settleTx := by
  simp [handle, hf.2, takeCommand_free hf]

theorem taking_handlerFree {s : State} (hf : s.handlerFree) (c : RxCommand) : (s.taking c).handlerFree := hf

/-- A command that is refused, or reports, is answered and changes nothing else. -/
theorem handle_unchanged {s : State} (hf : s.handlerFree) (c : RxCommand) {ok : Bool} {h : State → State × Answer}
    {a : Answer} (ha : (if ok then h (s.taking c) else (s.taking c, refusal .badLength)) = (s.taking c, a)) :
    handle c ok h s = s.answered c a := by
  rw [handle_free hf, ha]
  refine (placeReply_settleTx (s := s.taking c) hf.1 c a).trans ?_
  cases ht : s.link.tx <;> simp [State.answered, Link.answered, Link.placed, State.taking, State.withLink, ht]

theorem Link.noted_answered (l : Link) (ns : List Notice) (c : RxCommand) (a : Answer) :
    (({ l with commands := l.commands.erase c } : Link).noted ns).placed (c.replyWith a) = (l.noted ns).answered c a := by
  rw [Link.noted_commands]
  have hc : (l.noted ns).commands = l.commands := by rw [Link.noted_eq]
  cases ht : (l.noted ns).tx <;> simp [Link.placed, Link.answered, ht, hc]

/-- A command with an effect: its block gives state `u`, whose link differs from the one the handler gave it by raised
notices; then the reply is placed and goes out. -/
theorem handle_effect {s : State} (hf : s.handlerFree) (c : RxCommand) {h : State → State × Answer} {u : State} {a : Answer}
    (ha : h (s.taking c) = (u, a)) (hu : (s.taking c).Raises u) :
    ∃ l, handle c true h s = u.withLink l ∧ s.link.Answers l c a := by
  obtain ⟨ns, hu⟩ := hu
  have hr : u.link.reply = none := by rw [hu, Link.noted_eq]; exact hf.1
  refine ⟨_, ?_, ns, Link.noted_answered s.link ns c a⟩
  rw [handle_free hf]
  simp only [if_true, ha]
  rw [placeReply_settleTx hr, hu]
  rfl

/-- A command with an effect: its block gives state `u` with the reply slot still empty; then the reply is placed. -/
theorem handle_replied {s : State} (hf : s.handlerFree) (c : RxCommand) {h : State → State × Answer} {u : State} {a : Answer}
    (ha : h (s.taking c) = (u, a)) (hr : u.link.reply = none) : handle c true h s = u.replied c a := by
  rw [handle_free hf]
  simp only [if_true, ha]
  exact placeReply_settleTx hr c a

end Sys2Proof.Machine
end

