-- ==== Sys2Proof/WellFormed.lean ====
section
/-! DEFINITION. The terms that spell a command the part can meet. -/

namespace Sys2Proof

open Sys2Proof.Machine

/-- A kind in 0x01 to 0x3F that Figure 11-2 does not assign (R177). -/
def unassigned (kind : Byte) : Bool := 1 ≤ kind.toNat && kind.toNat ≤ 0x3F && !assignedKinds.contains kind.toNat

/-- A frame's body is of at most 1,024 bytes (Figure 11-1). -/
def fitsFrame (body : List Byte) : Bool := body.length ≤ 1024

/-- A row with two forms is the row of the form its body names (Figure 11-12). -/
def isRow (kind tag : Byte) (body : List Byte) (i : Instr) : Bool := RxCommand.row ⟨kind, tag, body⟩ == i

/-- The lags of a reading are places of a period, each listed once. -/
def Reading.wf (r : Reading) : Bool := r.mic < 16 && decide (r.mags.map (·.1)).Nodup

/-- A term that spells a command. -/
def Instr.wf (i : Instr) : Bool :=
  match i with
  | .unknownKindCommand kind _ body => unassigned kind && fitsFrame body
  | .frameReceived _ _ body _ => fitsFrame body
  | .resetFull tag body => fitsFrame body && isRow 0x02#8 tag body i
  | .resetAlign tag body => fitsFrame body && isRow 0x02#8 tag body i
  | .pathGetOne tag body => fitsFrame body && isRow 0x0E#8 tag body i
  | .pathGetListing tag body => fitsFrame body && isRow 0x0E#8 tag body i
  | .regionOverrideSet tag body => fitsFrame body && isRow 0x16#8 tag body i
  | .regionOverrideClear tag body => fitsFrame body && isRow 0x16#8 tag body i
  | .queueGetEntries tag body => fitsFrame body && isRow 0x1E#8 tag body i
  | .queueGetSchedule tag body => fitsFrame body && isRow 0x1E#8 tag body i
  | .hello _ body => fitsFrame body
  | .resume _ body => fitsFrame body
  | .globalSet _ body => fitsFrame body
  | .globalGet _ body => fitsFrame body
  | .zoneSet _ body => fitsFrame body
  | .zoneGet _ body => fitsFrame body
  | .zoneMute _ body => fitsFrame body
  | .pathSet _ body => fitsFrame body
  | .pathDrop _ body => fitsFrame body
  | .micSet _ body => fitsFrame body
  | .micGet _ body => fitsFrame body
  | .micRestore _ body => fitsFrame body
  | .sensorSet _ body => fitsFrame body
  | .sensorGet _ body => fitsFrame body
  | .regionGet _ body => fitsFrame body
  | .eqSet _ body => fitsFrame body
  | .eqGet _ body => fitsFrame body
  | .probeRequest _ body => fitsFrame body
  | .probeCancel _ body => fitsFrame body
  | .lineSet _ body => fitsFrame body
  | .lineGet _ body => fitsFrame body
  | .storeSave _ body => fitsFrame body
  | .storeLoad _ body => fitsFrame body
  | .analyseEnd readings loop => readings.all Reading.wf && decide (loop.map (·.1)).Nodup
  | .startUp _ _ _ _ => true
  | .frameAbandoned _ => true
  | .interByteTimeout => true
  | .storeSaveComplete _ => true
  | .storeLoadComplete _ => true
  | .transmitEnd => true
  | .supervisionLapse => true
  | .lineLevelChange _ _ => true
  | .sensorDue _ => true
  | .conversionWaitEnd => true
  | .clockStuck => true
  | .dataStuck => true
  | .sensorAttemptEnd _ => true
  | .stalenessExpiry _ => true
  | .holdExpiry _ => true
  | .millisecondBoundary => true
  | .delayXfadeEnd _ => true
  | .fadeOutComplete _ => true
  | .fadeInComplete _ => true
  | .eqXfadeEnd _ => true
  | .audioClockLoss => true
  | .audioClockReturn => true
  | .trackingDue _ => true
  | .quietWaitLeave => true
  | .deferLimitExpiry => true
  | .leadInEnd => true
  | .captureEnd => true
  | .rampOutEnd => true
  | .silentTrip _ => true
  | .overloadTrip _ => true
  | .overloadWindowEnd _ => true
  | .stuckTrip _ => true
  | .deafTrip _ => true
  | .commandPhaseEnd => true
  | .syncPairFound => true

end Sys2Proof
end

