-- ==== Sys2Proof/Laws/PerInstr.lean ====
section
/-! SUPPORT. A statement for each constructor of `Instr`: where it is the row of a received command whose body fits a
frame, it is a well-formed term (R176, R177, Figure 11-12). -/

namespace Sys2Proof.Laws

open Sys2Proof.Machine

/-- The row of a received command is a well-formed term. -/
theorem row_wf (c : RxCommand) (hb : fitsFrame c.body = true) (h1 : 1 ≤ c.kind.toNat) (h2 : c.kind.toNat ≤ 0x3F) :
    c.row.wf = true := by
  unfold RxCommand.row
  split <;> (try split) <;> simp_all [Instr.wf, isRow, RxCommand.row]
  simp [unassigned, assignedKinds, *]

namespace RowIsWellFormed

/-- An instruction that is the row of a received command is a well-formed term. -/
def Statement (i : Instr) : Prop :=
  ∀ c : RxCommand, fitsFrame c.body = true → 1 ≤ c.kind.toNat → c.kind.toNat ≤ 0x3F → c.row = i → i.wf = true

/-- The statement holds of every instruction. -/
theorem holds (i : Instr) : Statement i := fun c hb h1 h2 h => h ▸ row_wf c hb h1 h2

theorem startUp strap0 strap1 levels imageIntact : Statement (.startUp strap0 strap1 levels imageIntact) := holds _
theorem frameReceived kind tag body check : Statement (.frameReceived kind tag body check) := holds _
theorem frameAbandoned cause : Statement (.frameAbandoned cause) := holds _
theorem interByteTimeout : Statement .interByteTimeout := holds _
theorem unknownKindCommand kind tag body : Statement (.unknownKindCommand kind tag body) := holds _
theorem hello tag body : Statement (.hello tag body) := holds _
theorem resetFull tag body : Statement (.resetFull tag body) := holds _
theorem resetAlign tag body : Statement (.resetAlign tag body) := holds _
theorem resume tag body : Statement (.resume tag body) := holds _
theorem globalSet tag body : Statement (.globalSet tag body) := holds _
theorem globalGet tag body : Statement (.globalGet tag body) := holds _
theorem zoneSet tag body : Statement (.zoneSet tag body) := holds _
theorem zoneGet tag body : Statement (.zoneGet tag body) := holds _
theorem zoneMute tag body : Statement (.zoneMute tag body) := holds _
theorem pathSet tag body : Statement (.pathSet tag body) := holds _
theorem pathDrop tag body : Statement (.pathDrop tag body) := holds _
theorem pathGetOne tag body : Statement (.pathGetOne tag body) := holds _
theorem pathGetListing tag body : Statement (.pathGetListing tag body) := holds _
theorem micSet tag body : Statement (.micSet tag body) := holds _
theorem micGet tag body : Statement (.micGet tag body) := holds _
theorem micRestore tag body : Statement (.micRestore tag body) := holds _
theorem sensorSet tag body : Statement (.sensorSet tag body) := holds _
theorem sensorGet tag body : Statement (.sensorGet tag body) := holds _
theorem regionOverrideSet tag body : Statement (.regionOverrideSet tag body) := holds _
theorem regionOverrideClear tag body : Statement (.regionOverrideClear tag body) := holds _
theorem regionGet tag body : Statement (.regionGet tag body) := holds _
theorem eqSet tag body : Statement (.eqSet tag body) := holds _
theorem eqGet tag body : Statement (.eqGet tag body) := holds _
theorem probeRequest tag body : Statement (.probeRequest tag body) := holds _
theorem probeCancel tag body : Statement (.probeCancel tag body) := holds _
theorem queueGetEntries tag body : Statement (.queueGetEntries tag body) := holds _
theorem queueGetSchedule tag body : Statement (.queueGetSchedule tag body) := holds _
theorem lineSet tag body : Statement (.lineSet tag body) := holds _
theorem lineGet tag body : Statement (.lineGet tag body) := holds _
theorem storeSave tag body : Statement (.storeSave tag body) := holds _
theorem storeSaveComplete readBackMatches : Statement (.storeSaveComplete readBackMatches) := holds _
theorem storeLoad tag body : Statement (.storeLoad tag body) := holds _
theorem storeLoadComplete imageIntact : Statement (.storeLoadComplete imageIntact) := holds _
theorem transmitEnd : Statement .transmitEnd := holds _
theorem supervisionLapse : Statement .supervisionLapse := holds _
theorem lineLevelChange line high : Statement (.lineLevelChange line high) := holds _
theorem sensorDue n : Statement (.sensorDue n) := holds _
theorem conversionWaitEnd : Statement .conversionWaitEnd := holds _
theorem clockStuck : Statement .clockStuck := holds _
theorem dataStuck : Statement .dataStuck := holds _
theorem sensorAttemptEnd result : Statement (.sensorAttemptEnd result) := holds _
theorem stalenessExpiry n : Statement (.stalenessExpiry n) := holds _
theorem holdExpiry r : Statement (.holdExpiry r) := holds _
theorem millisecondBoundary : Statement .millisecondBoundary := holds _
theorem delayXfadeEnd z : Statement (.delayXfadeEnd z) := holds _
theorem fadeOutComplete z : Statement (.fadeOutComplete z) := holds _
theorem fadeInComplete z : Statement (.fadeInComplete z) := holds _
theorem eqXfadeEnd z : Statement (.eqXfadeEnd z) := holds _
theorem audioClockLoss : Statement .audioClockLoss := holds _
theorem audioClockReturn : Statement .audioClockReturn := holds _
theorem trackingDue z : Statement (.trackingDue z) := holds _
theorem quietWaitLeave : Statement .quietWaitLeave := holds _
theorem deferLimitExpiry : Statement .deferLimitExpiry := holds _
theorem leadInEnd : Statement .leadInEnd := holds _
theorem captureEnd : Statement .captureEnd := holds _
theorem analyseEnd readings loop : Statement (.analyseEnd readings loop) := holds _
theorem rampOutEnd : Statement .rampOutEnd := holds _
theorem silentTrip m : Statement (.silentTrip m) := holds _
theorem overloadTrip m : Statement (.overloadTrip m) := holds _
theorem overloadWindowEnd m : Statement (.overloadWindowEnd m) := holds _
theorem stuckTrip m : Statement (.stuckTrip m) := holds _
theorem deafTrip m : Statement (.deafTrip m) := holds _
theorem commandPhaseEnd : Statement .commandPhaseEnd := holds _
theorem syncPairFound : Statement .syncPairFound := holds _

end RowIsWellFormed

end Sys2Proof.Laws
end

