-- ==== Sys2Proof/Laws/Tables.lean ====
section
/-! SUPPORT. The tables of a fixed number of records: what reading gives after one record, or every record, is written. -/

namespace Sys2Proof.Machine

section

variable {α β : Type} [Inhabited α] [Inhabited β] {n : Nat}

theorem tget_eq_getElem (v : Vector α n) {i : Nat} (h : i < n) : tget v i = v[i] := by
  simp [tget, List.getD, Vector.getElem_toList, h]

/-- Beyond a table reading gives the default record. -/
theorem tget_out (v : Vector α n) {i : Nat} (h : n ≤ i) : tget v i = default := by
  simp [tget, List.getD, h]

/-- Two tables with equal records are equal. -/
theorem table_ext {v w : Vector α n} (h : ∀ i, i < n → tget v i = tget w i) : v = w := by
  apply Vector.ext
  intro i hi
  simpa [tget_eq_getElem, hi] using h i hi

theorem tget_tset_same (v : Vector α n) {i : Nat} (a : α) (h : i < n) : tget (tset v i a) i = a := by
  simp [tget, tset, List.getD, h]

theorem tget_tset_other (v : Vector α n) {i j : Nat} (a : α) (h : i ≠ j) : tget (tset v i a) j = tget v j := by
  simp [tget, tset, List.getD, h]

/-- A record written is read back, and every other record is as before. -/
theorem tget_tset (v : Vector α n) (i j : Nat) (a : α) :
    tget (tset v i a) j = if i = j ∧ i < n then a else tget v j := by
  by_cases hij : i = j
  · subst hij
    by_cases hi : i < n
    · simp [tget_tset_same v a hi, hi]
    · simp [hi, tget_out _ (Nat.le_of_not_lt hi)]
  · simp [tget_tset_other v a hij, hij]

/-- Every record rewritten: reading gives the rewriting of what it gave. -/
theorem tget_tmap (f : Nat → α → β) (v : Vector α n) {i : Nat} (h : i < n) : tget (tmap f v) i = f i (tget v i) := by
  simp [tget, tmap, List.getD, h]

/-- Rewriting every record with the record itself changes nothing. -/
theorem tmap_id {f : Nat → α → α} (v : Vector α n) (h : ∀ i, i < n → f i (tget v i) = tget v i) : tmap f v = v :=
  table_ext fun i hi => by rw [tget_tmap f v hi, h i hi]

/-- Two rewritings that agree on every record agree. -/
theorem tmap_congr {f g : Nat → α → β} (v : Vector α n) (h : ∀ i, i < n → f i (tget v i) = g i (tget v i)) :
    tmap f v = tmap g v :=
  table_ext fun i hi => by rw [tget_tmap f v hi, tget_tmap g v hi, h i hi]

/-- A table of equal records. -/
theorem tget_replicate (a : α) {i : Nat} (h : i < n) : tget (Vector.replicate n a) i = a := by
  simp [tget_eq_getElem, h]

end

/-! ### Records of the state -/

/-- A zone record written is read back, and every other zone is as before. -/
theorem State.zone_setZone (s : State) (z w : Nat) (x : Zone) :
    (s.setZone z x).zone w = if z = w ∧ z < 48 then x else s.zone w := tget_tset _ _ _ _

theorem State.mic_setMic (s : State) (m k : Nat) (x : Mic) :
    (s.setMic m x).mic k = if m = k ∧ m < 16 then x else s.mic k := tget_tset _ _ _ _

theorem State.sensor_setSensor (s : State) (n k : Nat) (x : Sensor) :
    (s.setSensor n x).sensor k = if n = k ∧ n < 8 then x else s.sensor k := tget_tset _ _ _ _

theorem State.region_setRegion (s : State) (r k : Nat) (x : Region) :
    (s.setRegion r x).region k = if r = k ∧ r < 8 then x else s.region k := tget_tset _ _ _ _

theorem State.line_setLine (s : State) (l k : Nat) (x : Line) :
    (s.setLine l x).line k = if l = k ∧ l < 6 then x else s.line k := tget_tset _ _ _ _

theorem State.dueAt_setDue (s : State) (z w : Nat) (x : Option Nat) :
    (s.setDue z x).dueAt w = if z = w ∧ z < 48 then x else s.dueAt w := tget_tset _ _ _ _

/-- The reader of each table sees the table alone. -/
theorem State.zone_congr {s t : State} (h : t.zones = s.zones) (z : Nat) : t.zone z = s.zone z := by simp [State.zone, h]
theorem State.mic_congr {s t : State} (h : t.mics = s.mics) (m : Nat) : t.mic m = s.mic m := by simp [State.mic, h]
theorem State.sensor_congr {s t : State} (h : t.sensors = s.sensors) (n : Nat) : t.sensor n = s.sensor n := by
  simp [State.sensor, h]
theorem State.region_congr {s t : State} (h : t.regions = s.regions) (r : Nat) : t.region r = s.region r := by
  simp [State.region, h]
theorem State.line_congr {s t : State} (h : t.lines = s.lines) (l : Nat) : t.line l = s.line l := by simp [State.line, h]
theorem State.dueAt_congr {s t : State} (h : t.due = s.due) (z : Nat) : t.dueAt z = s.dueAt z := by simp [State.dueAt, h]

end Sys2Proof.Machine
end

