-- ==== Sys2Proof/Laws/Queue.lean ====
section
/-! SUPPORT. What the arbiter and the scheduler can do to the queue, the flight and the due times within one event
(R98 to R103): one theorem for each field, which callers cite. -/

namespace Sys2Proof.Machine

variable (s : State)

/-! ### Readers that depend on other fields than those the arbiter writes -/

theorem State.tracked_congr {s t : State} (h : t.zones = s.zones) (z : Nat) : t.tracked z = s.tracked z := by
  simp [State.tracked, State.zone_congr h]

/-! ### Admission -/

theorem State.firstDue_admissible {z : Nat} (h : s.firstDue = some z) : s.admissible z = true := by
  have key : ∀ (xs : List Nat) (best : Option Nat), (∀ x ∈ xs, s.admissible x = true) →
      (∀ b, best = some b → s.admissible b = true) → ∀ z, xs.foldl (fun best z =>
        match best with
        | none => some z
        | some b => if (s.dueAt z).getD 0 < (s.dueAt b).getD 0 then some z else some b) best = some z →
      s.admissible z = true := by
    intro xs
    induction xs with
    | nil => intro best _ hb z hz; exact hb z hz
    | cons x xs ih =>
      intro best hx hb z hz
      refine ih _ (fun y hy => hx y (List.mem_cons_of_mem _ hy)) ?_ z hz
      intro b hb'
      have hxa := hx x List.mem_cons_self
      cases best with
      | none => cases hb'; exact hxa
      | some c =>
        dsimp only at hb'
        split at hb'
        · cases hb'; exact hxa
        · cases hb'; exact hb _ rfl
  exact key _ none (fun x hx => (List.mem_filter.mp hx).2) (fun _ h => by cases h) z h

theorem State.admissible_tracked {z : Nat} (h : s.admissible z = true) : s.tracked z = true := by
  simp only [State.admissible, State.zoneDue, Bool.and_eq_true] at h
  exact h.1.1.1

/-- What automatic admission appends are AUTO entries of tracked zones, in a queue of fewer than 24 (R99). -/
theorem State.admit_queue (n : Nat) :
    ∃ es, (State.admitDue n s).queue = s.queue ++ es ∧
      ∀ e ∈ es, e = autoEntry e.zone s.seconds ∧ s.tracked e.zone = true := by
  induction n generalizing s with
  | zero => exact ⟨[], by simp [State.admitDue]⟩
  | succ n ih =>
    unfold State.admitDue
    cases h : s.firstDue with
    | none => exact ⟨[], by simp⟩
    | some z =>
      obtain ⟨es, h1, h2⟩ := ih (s.withQueue (s.queue ++ [autoEntry z s.seconds]))
      refine ⟨autoEntry z s.seconds :: es, ?_, ?_⟩
      · simpa using h1
      · intro e he
        rcases List.mem_cons.mp he with rfl | he
        · exact ⟨rfl, s.admissible_tracked (s.firstDue_admissible h)⟩
        · obtain ⟨h3, h4⟩ := h2 e he
          exact ⟨h3, by rw [← h4]; exact (State.tracked_congr (by simp) _).symm⟩

/-! ### Starting -/

/-- A due time the end of a flight may have restarted (R98, R103). -/
theorem State.restartDue_dueAt (z w : Nat) :
    (s.restartDue z).dueAt w =
      if z = w ∧ z < 48 ∧ s.tracked z = true then some (s.clock.now + (s.zone z).cfg.interval * tickSec) else s.dueAt w := by
  unfold State.restartDue
  split
  · rename_i h
    rw [State.dueAt_setDue]; simp only [h, and_true]
  · rename_i h
    simp [h]

theorem State.finish_dueAt (f : Flight) (o : MeasureOutcome) (w : Nat) :
    (s.finish f o).dueAt w =
      if f.zone = w ∧ f.zone < 48 ∧ s.tracked f.zone = true then
        some (s.clock.now + (s.zone f.zone).cfg.interval * tickSec)
      else s.dueAt w := by
  unfold State.finish State.endFlight
  rw [State.restartDue_dueAt]
  have h1 : ((s.raise (.measureDone (f.done o (f.listen.map Listen.notRun) none none))).withFlight none).zones = s.zones := by
    simp
  rw [State.tracked_congr h1, State.zone_congr h1, State.dueAt_congr (s := s) (by simp)]
  simp

theorem State.startEntry_queue (e : Entry) : (s.startEntry e).queue = s.queue.erase e := by
  unfold State.startEntry; dsimp only; split <;> simp

theorem State.startEntry_dueAt (e : Entry) (w : Nat) :
    (s.startEntry e).dueAt w = s.dueAt w ∨
      (s.tracked w = true ∧ (s.startEntry e).dueAt w = some (s.clock.now + (s.zone w).cfg.interval * tickSec)) := by
  unfold State.startEntry; dsimp only; split
  · rw [State.finish_dueAt]
    split
    · rename_i h
      obtain ⟨rfl, _, h⟩ := h
      right
      rw [State.tracked_congr (s := s) (by simp)] at h
      exact ⟨h, by simp [State.zone_congr (s := s) (t := s.withQueue (s.queue.erase e)) (by simp)]⟩
    · left; exact State.dueAt_congr (by simp) w
  · left; exact State.dueAt_congr (by simp) w

/-! ### Both within one event -/

theorem State.arbiterReady_flight {f : Flight} (h : s.flight = some f) : s.arbiterReady = false := by
  simp [State.arbiterReady, h]

/-- One round: the arbiter's choice and the admissions, or the end. -/
theorem State.schedule_succ (n : Nat) :
    ∃ u, (u = s ∨ ∃ e, s.nextEntry = some e ∧ s.arbiterReady = true ∧ u = s.startEntry e) ∧
      (State.schedule (n + 1) s = State.admitDue 48 u ∨ State.schedule (n + 1) s = State.schedule n (State.admitDue 48 u)) := by
  refine ⟨if s.arbiterReady then (match s.nextEntry with | some e => s.startEntry e | none => s) else s, ?_, ?_⟩
  · split
    · rename_i h
      split
      · rename_i e he; exact .inr ⟨e, he, h, rfl⟩
      · exact .inl rfl
    · exact .inl rfl
  · rw [State.schedule]
    generalize (if s.arbiterReady then (match s.nextEntry with | some e => s.startEntry e | none => s) else s) = u
    split
    · exact .inr rfl
    · exact .inl rfl

/-- A flight goes on: nothing starts while the engine is not IDLE (R101). -/
theorem State.schedule_flight {s : State} {f : Flight} (h : s.flight = some f) (n : Nat) :
    (State.schedule n s).flight = some f := by
  induction n generalizing s with
  | zero => exact h
  | succ n ih =>
    obtain ⟨u, hu, hs⟩ := s.schedule_succ n
    have hu : u = s := by
      rcases hu with rfl | ⟨e, _, hr, _⟩
      · rfl
      · rw [s.arbiterReady_flight h] at hr; cases hr
    subst hu
    have ha : (State.admitDue 48 u).flight = some f := by simp [h]
    rcases hs with hs | hs
    · rw [hs, ha]
    · rw [hs]; exact ih ha

theorem State.settleQueue_flight {s : State} {f : Flight} (h : s.flight = some f) : s.settleQueue.flight = some f :=
  State.schedule_flight h 100

/-- Every entry that waits at the end waited before, or is an AUTO entry of a tracked zone admitted now (R99, R103). -/
theorem State.schedule_queue (n : Nat) :
    ∀ e ∈ (State.schedule n s).queue, e ∈ s.queue ∨ (e = autoEntry e.zone s.seconds ∧ s.tracked e.zone = true) := by
  induction n generalizing s with
  | zero => intro e he; exact .inl he
  | succ n ih =>
    obtain ⟨u, hu, hs⟩ := s.schedule_succ n
    have hq : ∀ e ∈ u.queue, e ∈ s.queue := by
      rcases hu with rfl | ⟨x, _, _, rfl⟩
      · exact fun _ h => h
      · intro e he; rw [State.startEntry_queue] at he; exact List.mem_of_mem_erase he
    have hz : u.zones = s.zones ∧ u.seconds = s.seconds := by
      rcases hu with rfl | ⟨x, _, _, rfl⟩ <;> simp [State.seconds]
    have ha : ∀ e ∈ (State.admitDue 48 u).queue, e ∈ s.queue ∨ (e = autoEntry e.zone s.seconds ∧ s.tracked e.zone = true) := by
      intro e he
      obtain ⟨es, h1, h2⟩ := u.admit_queue 48
      rw [h1] at he
      rcases List.mem_append.mp he with he | he
      · exact .inl (hq e he)
      · right; rw [← hz.2, ← State.tracked_congr hz.1]; exact h2 e he
    rcases hs with hs | hs
    · rw [hs]; exact ha
    · rw [hs]
      intro e he
      rcases ih _ e he with h | h
      · exact ha e h
      · right
        have hz' : (State.admitDue 48 u).zones = s.zones ∧ (State.admitDue 48 u).seconds = s.seconds := by
          simp [State.seconds, hz.1]; simpa [State.seconds] using hz.2
        rw [← hz'.2, ← State.tracked_congr hz'.1]; exact h

theorem State.settleQueue_queue :
    ∀ e ∈ s.settleQueue.queue, e ∈ s.queue ∨ (e = autoEntry e.zone s.seconds ∧ s.tracked e.zone = true) :=
  s.schedule_queue 100

/-- A due time is kept, or, for a tracked zone whose entry started and ended at once, restarted (R98, R103). -/
theorem State.schedule_dueAt (n w : Nat) :
    (State.schedule n s).dueAt w = s.dueAt w ∨
      (s.tracked w = true ∧
        (State.schedule n s).dueAt w = some (s.clock.now + (s.zone w).cfg.interval * tickSec)) := by
  induction n generalizing s with
  | zero => exact .inl rfl
  | succ n ih =>
    obtain ⟨u, hu, hs⟩ := s.schedule_succ n
    have hd : u.dueAt w = s.dueAt w ∨
        (s.tracked w = true ∧ u.dueAt w = some (s.clock.now + (s.zone w).cfg.interval * tickSec)) := by
      rcases hu with rfl | ⟨x, _, _, rfl⟩
      · exact .inl rfl
      · exact s.startEntry_dueAt x w
    have hz : u.zones = s.zones ∧ u.clock = s.clock := by
      rcases hu with rfl | ⟨x, _, _, rfl⟩ <;> simp
    have ha : (State.admitDue 48 u).dueAt w = u.dueAt w := State.dueAt_congr (by simp) w
    rcases hs with hs | hs
    · rw [hs, ha]; exact hd
    · rw [hs]
      have hz' : (State.admitDue 48 u).zones = s.zones ∧ (State.admitDue 48 u).clock = s.clock := by simp [hz]
      rcases ih (State.admitDue 48 u) with h | ⟨h1, h2⟩
      · rw [h, ha]; exact hd
      · right
        rw [State.tracked_congr hz'.1] at h1
        rw [State.zone_congr hz'.1, hz'.2] at h2
        exact ⟨h1, h2⟩

theorem State.settleQueue_dueAt (w : Nat) :
    s.settleQueue.dueAt w = s.dueAt w ∨
      (s.tracked w = true ∧ s.settleQueue.dueAt w = some (s.clock.now + (s.zone w).cfg.interval * tickSec)) :=
  s.schedule_dueAt 100 w

end Sys2Proof.Machine
end

