-- ==== Sys2Proof/Laws/Solver.lean ====
section
/-! SUPPORT. What a recomputation does to the zone table (R64 to R69): the record of each zone after it, and the formula
its target meets. -/

namespace Sys2Proof.Machine

/-! ### Taking a target up -/

/-- A target change that reaches the delay line touches the running delay and the transition alone. -/
theorem Zone.takeTarget_eq (z : Zone) (t : Nat) :
    z.takeTarget t = { z with running := (z.takeTarget t).running, transition := (z.takeTarget t).transition } := by
  unfold Zone.takeTarget Zone.evaluate; dsimp only; (repeat' split) <;> rfl

/-- A solution taken touches the solver fields and the delay line alone. -/
theorem Zone.takeSolution_eq (z : Zone) (x : Solution) :
    z.takeSolution x = { z with
      target := x.target, status := x.status, missing := x.missing
      running := (z.takeSolution x).running, transition := (z.takeSolution x).transition } := by
  unfold Zone.takeSolution; dsimp only; split
  · rfl
  · rw [Zone.takeTarget_eq]

/-- The solution a zone holds already changes nothing. -/
theorem Zone.takeSolution_same (z : Zone) : z.takeSolution ⟨z.target, z.status, z.missing⟩ = z := by
  simp [Zone.takeSolution]

variable (s : State) (sel : Nat → Bool)

/-! ### The solution of a zone -/

theorem State.solve_other {fuel z : Nat} (h : s.below sel 48 z = false) : s.solve sel fuel z = s.stored z := by
  cases fuel <;> simp [State.solve, h]

/-- The solution of a zone whose chain ends does not depend on the fuel that exceeds its length. -/
theorem State.solve_fuel {n z : Nat} (h : rooted (fun x => (s.zone x).cfg) n z) :
    ∀ {f g : Nat}, n < f → n < g → s.solve sel f z = s.solve sel g z := by
  induction n generalizing z with
  | zero =>
    intro f g hf hg
    obtain ⟨f, rfl⟩ : ∃ k, f = k + 1 := ⟨f - 1, by omega⟩
    obtain ⟨g, rfl⟩ : ∃ k, g = k + 1 := ⟨g - 1, by omega⟩
    have h : (s.zone z).cfg.lead = none := h
    simp [State.solve, h]
  | succ n ih =>
    intro f g hf hg
    obtain ⟨f, rfl⟩ : ∃ k, f = k + 1 := ⟨f - 1, by omega⟩
    obtain ⟨g, rfl⟩ : ∃ k, g = k + 1 := ⟨g - 1, by omega⟩
    cases hl : (s.zone z).cfg.lead with
    | none => simp [State.solve, hl]
    | some l =>
      have h : rooted (fun x => (s.zone x).cfg) n l := by simpa [rooted, hl] using h
      have e : s.solve sel f l = s.solve sel g l := ih h (by omega) (by omega)
      simp [State.solve, hl, e]

/-! ### The table after a recomputation -/

theorem State.zone_of_le {z : Nat} (h : 48 ≤ z) : s.zone z = default := tget_out _ h

theorem State.zone_resolved {z : Nat} (h : z < 48) :
    tget (s.resolved sel) z = if (s.zone z).cfg.active then (s.zone z).takeSolution (s.solve sel 48 z) else s.zone z :=
  tget_tmap _ _ h

theorem State.zone_recompute (hf : s.frozen = false) {z : Nat} (h : z < 48) :
    (s.recompute sel).zone z =
      if (s.zone z).cfg.active then (s.zone z).takeSolution (s.solve sel 48 z) else s.zone z := by
  rw [← s.zone_resolved sel h]
  unfold State.recompute State.adopt State.zone
  simp [hf]

theorem State.recompute_frozen (hf : s.frozen = true) : s.recompute sel = s := by simp [State.recompute, hf]

/-- A recomputation touches the solver fields and the delay line of a zone alone (R68, R69). -/
theorem State.zone_recompute_eq (z : Nat) :
    (s.recompute sel).zone z = { s.zone z with
      target := ((s.recompute sel).zone z).target, status := ((s.recompute sel).zone z).status
      missing := ((s.recompute sel).zone z).missing, running := ((s.recompute sel).zone z).running
      transition := ((s.recompute sel).zone z).transition } := by
  by_cases hz : z < 48
  · cases hf : s.frozen with
    | true => rw [s.recompute_frozen sel hf]
    | false =>
      rw [s.zone_recompute sel hf hz]
      split
      · rw [Zone.takeSolution_eq]
      · rfl
  · rw [State.zone_of_le _ (by omega), State.zone_of_le _ (by omega)]

theorem State.cfg_recompute (z : Nat) : ((s.recompute sel).zone z).cfg = (s.zone z).cfg := by
  rw [s.zone_recompute_eq sel z]

/-- A zone that is UNUSED, or neither selected nor below a selected one, is left as it was. -/
theorem State.zone_recompute_other {z : Nat} (h : (s.zone z).cfg.active = false ∨ s.below sel 48 z = false) :
    (s.recompute sel).zone z = s.zone z := by
  by_cases hz : z < 48
  · cases hf : s.frozen with
    | true => rw [s.recompute_frozen sel hf]
    | false =>
      rw [s.zone_recompute sel hf hz]
      rcases h with h | h
      · simp [h]
      · rw [s.solve_other sel h]
        split
        · exact Zone.takeSolution_same _
        · rfl
  · rw [State.zone_of_le _ (by omega), State.zone_of_le _ (by omega)]

/-! ### The formula -/

theorem State.path_congr {s t : State} (h : t.paths = s.paths) (z m : Nat) : t.path z m = s.path z m := by
  simp [State.path, h]

/-- The path temperature reads the regions and the region fields of the zone and the microphone (R57). -/
theorem State.pathTemp_congr {s t : State} (hr : t.regions = s.regions) (hm : t.mics = s.mics)
    (z m : Nat) (hz : (t.zone z).cfg.region = (s.zone z).cfg.region) : t.pathTemp z m = s.pathTemp z m := by
  simp [State.pathTemp, State.region_congr hr, State.mic_congr hm, hz]

theorem State.tofEff_congr {s t : State} (hr : t.regions = s.regions) (hm : t.mics = s.mics)
    (p : Path) (hz : (t.zone p.zone).cfg.region = (s.zone p.zone).cfg.region) : t.tofEff p = s.tofEff p := by
  simp [State.tofEff, State.pred, State.pathTemp_congr hr hm _ _ hz]

/-- What a selected zone of a recomputation holds after it: the formula of R64 to R67, with the lead's target after it. The
lead is one the chain from the zone reaches within the fuel. -/
theorem State.recompute_solved (hf : s.frozen = false) {z : Nat} (hz : z < 48) (ha : (s.zone z).cfg.active = true)
    (hb : s.below sel 48 z = true)
    (hl : ∀ l, (s.zone z).cfg.lead = some l →
      ((s.recompute sel).zone l).target = (s.solve sel 47 l).target) :
    (s.recompute sel).Solved (s.zone z).target z := by
  have hst : (s.recompute sel).stored z = s.solve sel 48 z := by
    simp only [State.stored]
    rw [s.zone_recompute sel hf hz, if_pos ha, Zone.takeSolution_eq]
  have hc := s.cfg_recompute sel
  have hp : ∀ x m, (s.recompute sel).path x m = s.path x m := State.path_congr (by simp)
  have ht : ∀ p, (s.recompute sel).tofEff p = s.tofEff p := fun p =>
    State.tofEff_congr (by simp) (by simp) p (by rw [hc])
  unfold State.Solved
  simp only [hc, hp, ht, hst]
  cases hlead : (s.zone z).cfg.lead with
  | none => simp [State.solve, hb, hlead]
  | some l =>
    cases hmic : (s.zone z).cfg.mic with
    | none => simp [State.solve, hb, hlead, hmic]
    | some m =>
      have hl := hl l hlead
      have hs : s.solve sel 48 z = s.solveDependent z (s.solve sel 47 l).target (s.path l m) (s.path z m) := by
        rw [State.solve, if_pos hb]; simp only [hlead, hmic]
      rw [hs, ← hl]
      cases h1 : s.path l m <;> cases h2 : s.path z m <;> simp only [State.solveDependent, h1, h2, Option.isNone]

/-- Under the law of R6 every selected zone meets the formula (R68). -/
theorem State.recompute_chain (hf : s.frozen = false) (hlaw : chainLaw fun z => (s.zone z).cfg) {z : Nat} (hz : z < 48)
    (ha : (s.zone z).cfg.active = true) (hb : s.below sel 48 z = true) :
    (s.recompute sel).Solved (s.zone z).target z := by
  refine s.recompute_solved sel hf hz ha hb fun l hl => ?_
  obtain ⟨hroot, hlead⟩ := hlaw z hz ha
  obtain ⟨hl48, hla, -⟩ := hlead l hl
  have hr : rooted (fun z => (s.zone z).cfg) 2 l := by simpa [rooted, hl] using hroot
  rw [s.zone_recompute sel hf hl48, if_pos hla, Zone.takeSolution_eq, s.solve_fuel sel hr (by omega : 2 < 48) (by omega : 2 < 47)]

end Sys2Proof.Machine
end

