-- ==== Sys2Proof/Tests/Slice0.lean ====
section
/-! SUPPORT. Tests. Expected results come from the manual's worked figures, named at each test; a witness theorem shows, for
each statement with hypotheses, a state and operands that meet them, at boundary values where a statement has several
clauses. -/

namespace Sys2Proof.Tests

open Sys2Proof Sys2Proof.Machine

set_option Elab.async false

/-! ### Ill-formed terms (WellFormed) -/

/-- A body of 1,025 bytes. -/
def tooLong : List Byte := List.replicate 1025 0#8

/-- A kind the figure assigns, and kinds outside 0x01 to 0x3F, are not unassigned kinds. -/
theorem test_wf_unassigned :
    [Instr.unknownKindCommand 0x01#8 0#8 [], .unknownKindCommand 0x00#8 0#8 [], .unknownKindCommand 0x40#8 0#8 []].all
      (fun i => !i.wf) = true := by decide +kernel

/-- A body above 1,024 bytes fits no frame. -/
theorem test_wf_fitsFrame :
    [Instr.unknownKindCommand 0x06#8 0#8 tooLong, .frameReceived 1#8 0#8 tooLong 0#16, .hello 0#8 tooLong,
      .resetFull 0#8 tooLong, .resetAlign 0#8 tooLong, .resume 0#8 tooLong, .globalSet 0#8 tooLong, .globalGet 0#8 tooLong,
      .zoneSet 0#8 tooLong, .zoneGet 0#8 tooLong, .zoneMute 0#8 tooLong, .pathSet 0#8 tooLong, .pathDrop 0#8 tooLong,
      .pathGetOne 0#8 tooLong, .pathGetListing 0#8 tooLong, .micSet 0#8 tooLong, .micGet 0#8 tooLong,
      .micRestore 0#8 tooLong, .sensorSet 0#8 tooLong, .sensorGet 0#8 tooLong].all (fun i => !i.wf) = true := by
  decide +kernel

/-- A body above 1,024 bytes fits no frame, the other rows. -/
theorem test_wf_fitsFrame_rest :
    [Instr.regionOverrideSet 0#8 tooLong, .regionOverrideClear 0#8 tooLong, .regionGet 0#8 tooLong, .eqSet 0#8 tooLong,
      .eqGet 0#8 tooLong, .probeRequest 0#8 tooLong, .probeCancel 0#8 tooLong, .queueGetEntries 0#8 tooLong,
      .queueGetSchedule 0#8 tooLong, .lineSet 0#8 tooLong, .lineGet 0#8 tooLong, .storeSave 0#8 tooLong,
      .storeLoad 0#8 tooLong].all (fun i => !i.wf) = true := by
  decide +kernel

/-- A row of two forms with the other form's body. -/
theorem test_wf_isRow :
    [Instr.resetFull 0#8 [2#8], .resetAlign 0#8 [1#8], .pathGetOne 0#8 [0#8, 0#8, 0#8], .pathGetListing 0#8 [0#8, 0#8],
      .regionOverrideSet 0#8 [0#8, 0#8], .regionOverrideClear 0#8 [0#8, 1#8], .queueGetEntries 0#8 [1#8],
      .queueGetSchedule 0#8 [0#8]].all (fun i => !i.wf) = true := by
  decide +kernel

/-- A reading of no microphone, a lag listed twice in a reading, and one listed twice in the loop correlation. -/
theorem test_wf_reading :
    [Instr.analyseEnd [⟨16, []⟩] [], .analyseEnd [⟨0, [(5, 1), (5, 2)]⟩] [], .analyseEnd [] [(5, 1), (5, 2)]].all
      (fun i => !i.wf) = true := by decide +kernel

/-- Terms of the same rows that are well formed. -/
theorem test_wf_accepts :
    [Instr.unknownKindCommand 0x3F#8 0#8 (List.replicate 1024 0#8), .resetFull 0#8 [3#8], .resetAlign 0#8 [2#8],
      .pathGetOne 0#8 [0#8, 0#8], .pathGetListing 0#8 [0#8, 0#8, 0#8], .regionOverrideSet 0#8 [0#8, 1#8],
      .regionOverrideClear 0#8 [0#8, 0#8], .queueGetEntries 0#8 [0#8], .queueGetSchedule 0#8 [1#8],
      .analyseEnd [⟨15, [(5, 1), (6, 2)]⟩] []].all Instr.wf = true := by decide +kernel

/-! ### Small states -/

/-- Whether a step answers a next state that meets a test. -/
def after (i : Instr) (s : State) (p : State → Bool) : Bool :=
  match exec i s with
  | .next t => p t
  | _ => false

/-- The reply that went out at once has this status and data. -/
def answers (st : Status) (d : ReplyData) (t : State) : Bool :=
  match t.link.tx with
  | some (.reply r) => r.answer.status == st && r.answer.data == d
  | _ => false

/-- A ZONE_SET body (Figure 11-8) with the other fields at the values of section 4.7. -/
def zoneBody (z st presence lead mic : Byte) (prec : List Byte) : List Byte :=
  [z, st, presence, 0, lead, mic, 2, 0, 0, 0, 0, 0, 0] ++ prec ++ [0, 0, 0, 0, 100, 0, 60, 0, 240, 0, 8, 0xE0#8, 0x01#8]

/-- The roof-ring zones of sections 4.7 and 4.8: zone 1 free, 7 below it at microphone 5, 12 below 7 at microphone 9. -/
def zone1 : Zone := { cfg := { active := true, region := 2 } }
def zone7 : Zone := { cfg := { active := true, lead := some 1, mic := some 5, region := 2, prec := 7680 } }
def zone12 : Zone := { cfg := { active := true, lead := some 7, mic := some 9, region := 2, prec := 3840, trim := -160 } }

/-- A microphone in use in region 2. -/
def micInUse (slot latency : Nat) : Mic := { cfg := { inUse := true, slot := slot, latency := latency, region := 2 } }

/-- The four paths of section 4.8. -/
def roofPaths : List Path :=
  [{ zone := 1, mic := 5, dist := 92400, origin := .entered, correction := 24 },
   { zone := 7, mic := 5, dist := 18750, origin := .entered, correction := -8 },
   { zone := 7, mic := 9, dist := 30691, origin := .entered }, { zone := 12, mic := 9, dist := 9200, origin := .entered }]

/-- The zones, microphones and paths of section 4.8, region 2 publishing a temperature; no target is computed yet. -/
def bare (temp : Int) : State :=
  ((((((State.reset.setZone 1 zone1).setZone 7 zone7).setZone 12 zone12).setMic 5 (micInUse 5 1200)).setMic 9
    (micInUse 9 1200)).setRegion 2 ⟨.override temp 40, temp, 40⟩).withPaths roofPaths

/-- The state of section 4.8 with its targets computed and the link idle. -/
def roof : State := ((bare 285).recomputeQuietly allZones)

/-- A zone with its running delay at its target and its stage open. -/
def opened (z : Zone) : Zone := { z with running := z.target, stage := .opened, fade := 960 }

/-! ### Speed of sound, times of flight, targets (sections 3.4, 4.7, 4.8) -/

theorem test_speedOfSound :
    [(-300 : Int), -123, 0, 180, 200, 279, 285, 600].map speedOfSound =
      [313120, 323846, 331300, 342208, 343420, 348207, 348571, 367660] := by decide +kernel

theorem test_predicted :
    [predicted 92400 285, predicted 18750 285, predicted 30691 285, predicted 9200 285, predicted 92400 180,
      predicted 18750 180, predicted 400000 (-300)] = [203583, 41312, 67621, 20270, 207369, 42080, 981094] := by
  decide +kernel

/-- Section 2.5: the distances of microphones 5, 9 and 11. -/
theorem test_impliedDist :
    impliedDist 41320 285 = 18754 ∧ impliedDist 67620 285 = 30691 ∧ impliedDist 999000 285 = 453415 := by decide +kernel

/-- Section 4.8: the targets at 28.5 °C. -/
theorem test_targets :
    [(roof.zone 1).target, (roof.zone 7).target, (roof.zone 12).target] = [0, 169983, 221014] ∧
      [(roof.zone 1).status, (roof.zone 7).status, (roof.zone 12).status] = [.free, .aligned, .aligned] := by
  decide +kernel

/-- Section 4.7: the target of zone 7 at 18.0 °C. -/
theorem test_target_cool : (((bare 180).recomputeQuietly allZones).zone 7).target = 173001 := by decide +kernel

/-- Section 4.8: PATH_DROP of (1,5) leaves zone 7 NO_PATH, holding its target, with one ZONE_STATUS notice. -/
theorem test_pathDrop :
    after (.pathDrop 0x11#8 [1#8, 5#8]) roof (fun t =>
      (t.zone 7).status == .noPath && (t.zone 7).target == 169983 && (t.zone 12).target == 221014 &&
        answers .ok (.pathDrop 1) t && t.link.outbox == [.zoneStatus 7 .aligned .noPath 169983 (some ⟨true, false⟩)]) = true := by
  decide +kernel

/-- Section 4.8: with zone 1 at base delay 960 and its path gone, PATH_SET of (1,5) at 92,400 mm gives 170,919 and
221,950. -/
theorem test_pathSet :
    after (.pathSet 0#8 [1#8, 5#8, 0xF0#8, 0x68#8, 0x01#8, 0#8])
      (((((roof.withPaths roofPaths.tail).setZone 1 { zone1 with cfg := { zone1.cfg with base := 960 }, target := 960 }).setZone 7
        { roof.zone 7 with status := .noPath, missing := ⟨true, false⟩ }))) (fun t =>
      (t.zone 7).target == 170919 && (t.zone 12).target == 221950 && answers .ok (.pathSet 3 true) t &&
        t.link.outbox == [.zoneStatus 7 .noPath .aligned 170919 none]) = true := by decide +kernel

/-! ### Lead chains (section 1.5) -/

/-- The chain of Figure 1-2: 1, then 7, then 12, then 20. -/
def chain : State :=
  (((State.reset.setZone 1 zone1).setZone 7 zone7).setZone 12 zone12).setZone 20
    { cfg := { active := true, lead := some 12, mic := some 9 } }

/-- Section 1.5, steps 1 and 2: a fifth level and a cycle are refused. -/
theorem test_zoneSet_conflicts :
    after (.zoneSet 0#8 (zoneBody 25#8 1#8 6#8 20#8 11#8 [0, 0])) chain (answers .conflict .none) = true ∧
    after (.zoneSet 0#8 (zoneBody 1#8 1#8 6#8 20#8 5#8 [0, 0])) chain (answers .conflict .none) = true := by decide +kernel

/-- Section 1.5, steps 4 and 5: zone 12 moves to level 2 and zone 25 then finds a place at level 4. -/
theorem test_zoneSet_moves :
    after (.zoneSet 0#8 (zoneBody 12#8 1#8 6#8 1#8 9#8 [0, 0])) chain (fun t =>
      answers .ok .none t && [1, 7, 12, 20].map t.level == [1, 2, 2, 3] && t.dependants 1 == [7, 12] &&
        after (.zoneSet 0#8 (zoneBody 25#8 1#8 6#8 20#8 11#8 [0, 0])) (t.withLink {}) (fun u =>
          answers .ok .none u && u.level 25 == 4 && (u.zone 25).status == .noPath)) = true := by decide +kernel

/-! ### Delay lines (section 5.9) -/

/-- A difference of 3,018 glides and one of 9,217 crossfades at threshold 480. -/
theorem test_evaluate :
    ((opened (roof.zone 7)).takeTarget 173001).transition = .glide ∧
      ({ opened (roof.zone 7) with running := 170783, transition := .glide }.takeTarget 180000).transition =
        .xfade 170783 180000 0 := by decide +kernel

/-- A glide step of slew 8, and the end of the crossfade at target 179,500. -/
theorem test_glide_and_end :
    ({ opened (roof.zone 7) with target := 173001, transition := .glide }.glideStep).running = 169991 ∧
      ({ opened (roof.zone 7) with target := 179500, transition := .xfade 170783 180000 960 }.endXfade).transition = .glide ∧
      ({ opened (roof.zone 7) with target := 179500, running := 179600, transition := .glide }.close).running = 179500 := by
  decide +kernel

/-! ### Numbers of the audio path (sections 5.4, 5.5, 7.2) -/

/-- sin(π/2 × position/960) is 0 at 0, 1/2 at 320, 1/√2 at 480 and 1 at 960. -/
theorem test_sine :
    sineScaled 0 = 0 ∧ sineScaled 320 = 2 ^ 127 ∧ sineScaled 960 = 2 ^ 128 ∧
      (2 * sineScaled 480 ^ 2 - 2 ^ 256 < 2 ^ 131 ∧ 2 ^ 256 - 2 * sineScaled 480 ^ 2 < 2 ^ 131) := by decide +kernel

/-- The polynomials taken are primitive, and x^n + 1 is not. -/
theorem test_primitive : [13, 14, 15, 16].map (fun n => (primitive (primitiveOf n) n, primitive (2 ^ n + 1) n)) =
    [(true, false), (true, false), (true, false), (true, false)] := by decide +kernel

/-- Half of 24-bit full scale lies between −6 and −7 dB: 10^(−7/20) < 1/2 < 10^(−6/20). -/
theorem test_amplitude :
    amplitudeFloor 24 (2 ^ 23) 0 = 2 ^ 23 ∧ amplitudeFloor 24 (2 ^ 23) 20 = 838860 ∧
      amplitudeFloor 24 (2 ^ 23) 7 < 2 ^ 22 ∧ 2 ^ 22 < amplitudeFloor 24 (2 ^ 23) 6 := by decide +kernel

/-! ### Equaliser (section 10.2) -/

theorem test_shelfGain :
    [shelfGain 18750 45 100, shelfGain 18750 45 50, shelfGain 18750 55 100, shelfGain 18750 48 100, shelfGain 92400 25 100,
      shelfGain 0 40 100] = [21, 10, 15, 21, 120, 0] := by decide +kernel

/-- R172's figures: a frequency of 15 Hz is stored as 20, a Q of 12.50 as 10.00, a gain of −24.0 dB as −18.0. -/
theorem test_eqSet_clamps :
    after (.eqSet 0#8 [7#8, 1#8, 0#8, 15#8, 0#8, 0x10#8, 0xFF#8, 0xE2#8, 0x04#8, 1#8]) roof (fun t =>
      (t.zone 7).eq.bands == [⟨.peak, 20, -180, 1000, true⟩] && answers .clamped (.eqSet .applied) t) = true := by
  decide +kernel

/-! ### Analysis (section 7.3) -/

/-- Neighbours 0.60 and 0.80, 0.70 and 0.50, and equal ones, about a peak of 1.00. -/
theorem test_subSample : subSample 60 100 80 = 3 ∧ subSample 70 100 50 = -2 ∧ subSample 60 100 60 = 0 := by
  decide +kernel

/-- The window of a CHECK or TRACK over path (7,9) in ACQUIRE and in TRACK. -/
theorem test_window :
    (roof.setZone 7 { zone7 with cfg := { zone7.cfg with outLat := 1600 } }).placeWindow 7 9
        { zone := 7, mic := 9, dist := 30691, origin := .entered } 65535 = .placed 4401 960 ∧
      (roof.setZone 7 { zone7 with cfg := { zone7.cfg with outLat := 1600 } }).placeWindow 7 9
        { zone := 7, mic := 9, dist := 30691, origin := .entered, tracker := .track } 65535 = .placed 4401 240 := by
  decide +kernel

/-- Ratios of 400, 20 and 10 to the power 12. -/
theorem test_pnr : [logRound 400 1 999, logRound 20 1 999, logRound (10 ^ 12) 1 999] = [260, 130, 999] := by decide +kernel

/-- The reported arrival of a peak at sample −1 with r = +3. -/
theorem test_reported : reported (-13) 65535 = 1048547 := by decide +kernel

/-! ### Tracker (sections 8.2 and 8.7) -/

/-- The five measurements of section 8.7. -/
theorem test_tracker :
    let p0 : Path := { zone := 7, mic := 5, dist := 18750, origin := .entered }
    let p1 := p0.accept 40
    let p2 := p1.accept 3
    let p4 := p2.miss.accept (-4)
    let p5 := p4.accept 6
    [p1.correction, p2.correction, p2.miss.correction, p4.correction, p5.correction] = [20, 22, 22, 20, 23] ∧
      [p1.goodRun, p2.goodRun, p4.goodRun, p5.goodRun] = [0, 1, 2, 0] ∧ p5.tracker = .track := by decide +kernel

/-- The rounding table of R138. -/
theorem test_steps :
    [40, 3, -3, 12, -12, 8, -4].map (fun e => roundAway (e * 128) 256) = [20, 2, -2, 6, -6, 4, -2] ∧
      [40, 3, -3, 12, -12, 8, -4].map (fun e => roundAway (e * 32) 256) = [5, 0, 0, 2, -2, 1, -1] := by decide +kernel

/-! ### Climate (R39, R49) -/

/-- R39's figures: −1,235 becomes −124, 4,250 becomes 43 and 4,249 becomes 42. -/
theorem test_conversion :
    roundAway (-1235) 10 = -124 ∧ roundNearest 4250 100 = 43 ∧ roundNearest 4249 100 = 42 := by decide +kernel

/-- The check value of the CRC-8 of polynomial 0x07 over the digits 1 to 9 is 0xF4, of the CRC-16 0x29B1 and of the CRC-32
0xCBF43926: the published check values of the three (PRESUMED). -/
theorem test_crc :
    let digits := (List.range 9).map fun i => BitVec.ofNat 8 (0x31 + i)
    crc8 digits = 0xF4#8 ∧ crc16 digits = 0x29B1#16 ∧ crc32 digits = 0xCBF43926#32 := by decide +kernel

/-! ### Queue (section 6.7) -/

/-- The queue and flight of section 6.7. -/
def busy : State :=
  let auto := fun z => autoEntry z 0
  (((roof.setZone 9 { cfg := { active := true, tracking := true } }).setMic 11 (micInUse 11 0)).withQueue
    [auto 5, ⟨12, .host, .survey, [], none, none, 0⟩, auto 20, auto 9]).withFlight
    (some { zone := 3, cls := .auto, kind := .track, admitted := 0, phase := .capture, listen := [], order := 16, level := -40,
            repeats := 4 })

/-- A request of zone 9 displaces its AUTO entry and joins at position 3 with its level clamped. -/
theorem test_probeRequest :
    after (.probeRequest 0#8 [9#8, 1#8, 1#8, 0xBA#8, 0#8, 0#8, 2#8, 5#8, 11#8]) busy (fun t =>
      answers .accepted (.probe 3 true false false) t &&
        t.queue.map (fun e => (e.zone, e.cls)) == [(5, .auto), (12, .host), (20, .auto), (9, .host)] &&
        (t.queue.map fun e => e.level) == [none, none, none, some (-60)]) = true := by
  decide +kernel

/-- Zone 3 would be answered BUSY, its measurement being in flight. -/
theorem test_probeRequest_busy :
    after (.probeRequest 0#8 [3#8, 0#8, 0#8, 0#8, 0#8, 0#8, 0#8]) (busy.setZone 3 { cfg := { active := true } })
      (answers .busy .none) = true := by decide +kernel

/-! ### Lines, supervision and the link (R15, section 11.10) -/

/-- A low level at the dedicated line 0 mutes an open zone. -/
theorem test_muteAll :
    after (.lineLevelChange 0 false) (roof.setZone 7 (opened (roof.zone 7))) (fun t =>
      (t.zone 7).stage == .fadingOut && t.muteAll) = true := by decide +kernel

/-- Section 11.10: the timer expires, every ACTIVE zone shows HELD_FROZEN, and RESUME brings zone 7 to 173,001. -/
theorem test_freeze_and_resume :
    after .supervisionLapse ((roof.withGlobals { supTime := 2, freeze := true }).withLink
        { supervision := .watching, timerFrom := 24000000, lastGood := some 24000000 }) (fun t =>
      (t.zone 7).status == .heldFrozen && (t.zone 7).target == 169983 &&
        t.link.tx == some (.notice false (.lapse true 2 2000)) &&
        after (.resume 0#8 []) ((t.setRegion 2 ⟨.override 180 40, 180, 40⟩).withLink { t.link with tx := none }) (fun u =>
          (u.zone 7).target == 173001 && u.link.supervision == .watching)) = true := by decide +kernel

/-- The start of a HELLO frame as bytes (Figure 11-1), and what the receiver makes of a whole frame. -/
theorem test_frame :
    frameBytes 0x01#8 0x07#8 [] =
      [0xA5#8, 0x5A#8, 0#8, 0#8, 0x01#8, 0x07#8] ++ bytes2 (crc16 [0#8, 0#8, 0x01#8, 0x07#8]).toNat ∧
    after (.frameReceived 0x01#8 0x07#8 [] (crc16 [0#8, 0#8, 0x01#8, 0x07#8])) roof (fun t =>
      t.link.commands == [⟨0x01#8, 0x07#8, []⟩]) = true := by decide +kernel

/-! ### The machine of the host -/

/-- No word spells a command. -/
theorem test_decodeTableWord : decodeTableWord 8 1 = none := rfl

/-! ### Witnesses

One theorem for each statement with hypotheses: a state and operands that meet them, clause by clause. -/

/-- Whether a chain ends at a free zone in time, as a computation. -/
def rootedB (cfgs : Nat → ZoneCfg) : Nat → Nat → Bool
  | 0, z => (cfgs z).lead.isNone
  | n + 1, z => match (cfgs z).lead with
    | none => true
    | some l => rootedB cfgs n l

theorem rootedB_sound (cfgs : Nat → ZoneCfg) (n z : Nat) (h : rootedB cfgs n z = true) : rooted cfgs n z := by
  induction n generalizing z with
  | zero => simpa [rootedB, rooted] using h
  | succ n ih =>
    unfold rootedB at h
    unfold rooted
    split at h <;> simp_all

/-- A table that keeps R6 zone by zone keeps the law. -/
theorem chainLaw_of_check (cfgs : Nat → ZoneCfg)
    (h : ((List.range 48).all fun z => !(cfgs z).active || (rootedB cfgs 3 z && (cfgs z).lead.all fun l =>
      decide (l < 48) && (cfgs l).active && (cfgs z).mic.isSome)) = true) : chainLaw cfgs := by
  intro z hz ha
  have hc := List.all_eq_true.mp h z (List.mem_range.mpr hz)
  simp only [ha, Bool.not_true, Bool.false_or, Bool.and_eq_true] at hc
  refine ⟨rootedB_sound cfgs 3 z hc.1, fun l hl => ?_⟩
  have := hc.2
  simp only [hl, Option.all_some, Bool.and_eq_true, decide_eq_true_eq] at this
  exact ⟨this.1.1, this.1.2, this.2⟩

theorem roof_chainLaw : chainLaw (fun z => (roof.zone z).cfg) := chainLaw_of_check _ (by decide +kernel)

theorem roof_handlerFree : roof.handlerFree := by unfold State.handlerFree; decide +kernel

/-- The roof ring under a freeze, with a frame on the line, and with an unheard timer. -/
def frozenRoof : State := roof.withLink { supervision := .lapsedFreeze }
def talking : State := roof.withLink { tx := some (.notice false (.lapse true 2 2000)) }

/-- The roof ring with zone 12 audible, and with zone 12 in a retirement fade-out. -/
def audible : State := roof.setZone 12 (opened (roof.zone 12))
def retiringRoof : State := roof.setZone 12 { opened zone12 with cfg := {}, stage := .fadingOut, retiring := true }

/-- A measurement over zone 12 in one phase. -/
def flight12 (kind : Kind) (phase : Phase) : Flight :=
  { zone := 12, cls := .host, kind := kind, admitted := 0, phase := phase, order := 16, level := -40, repeats := 4,
    listen := [{ mic := 9, standing := .heard, window := .placed 4401 960 }, { mic := 5, standing := .heard, window := .whole }], quietSince := some 0 }

def flying (kind : Kind) (phase : Phase) : State := roof.withFlight (some (flight12 kind phase))

theorem witness_StepRunsTheFrontCommand :
    (roof.withPending [.resume 0#8 []]).pending = .resume 0#8 [] :: [] ∧ roof.pending = [] ∧ roof.nextDue = none ∧
      roof.link.rxLine = [] ∧ (roof.withLink { rxLine := [none] }).pending = [] ∧
      (roof.withLink { rxLine := [none] }).nextDue = none ∧ (roof.withLink { rxLine := [none] }).link.rxLine = none :: [] ∧
      (roof.withLink { supervision := .watching }).pending = [] ∧
      (State.reset.withLink { commands := [⟨1#8, 0#8, []⟩] }).nextDue = some (.hello 0#8 []) := by
  decide +kernel

theorem witness_EveryCommandIsAnswered :
    roof.handlerFree ∧ 1 ≤ (0x01#8).toNat ∧ (0x3F#8).toNat ≤ 0x3F ∧ roof.link.tx = none ∧
      talking.handlerFree ∧ talking.link.tx ≠ none := by
  unfold State.handlerFree; decide +kernel

theorem witness_BadLengthsAndUnknownKindsAreRefused :
    roof.handlerFree ∧ ([0#8] : List Byte).length ≠ 0 ∧ ([0#8, 0#8] : List Byte).length ≠ 1 ∧
      (([0#8] : List Byte).length ≠ 2 ∧ ([0#8] : List Byte).length ≠ 3) ∧
      ([0#8] : List Byte).length ≠ (if Config.micSetLong then 9 else 8) ∧ ([0#8] : List Byte).length ≠ 28 ∧
      ([5#8, 1#8, 0#8] : List Byte).length ≠ 2 + 8 * byteAt [5#8, 1#8, 0#8] 1 ∧
      (List.replicate 7 (1#8 : Byte)).length ≠ 7 + byteAt (List.replicate 7 (1#8 : Byte)) 6 ∧
      (0x06#8).toNat ∉ assignedKinds ∧ (0x3F#8).toNat ≤ 0x3F ∧ (0x3F#8).toNat ∉ assignedKinds := by
  refine ⟨roof_handlerFree, ?_, ?_, ?_, ?_, ?_⟩
  iterate 3 decide
  · split <;> decide
  · decide +kernel

theorem witness_ThePartReportsItself : roof.handlerFree := roof_handlerFree

theorem witness_ZonesAndEqualisersAreReported : roof.handlerFree ∧ (47#8).toNat < 48 ∧ ¬ (48#8).toNat < 48 := by
  refine ⟨roof_handlerFree, ?_⟩; decide +kernel

theorem witness_PathsAreReported :
    roof.handlerFree ∧ (roof.path 7 5).isSome = true ∧ roof.path 47 15 = none ∧ (191#8).toNat ≤ 191 := by
  refine ⟨roof_handlerFree, ?_⟩; decide +kernel

theorem witness_MicrophonesAndClimateAreReported : roof.handlerFree ∧ (15#8).toNat < 16 ∧ (7#8).toNat < 8 := by
  refine ⟨roof_handlerFree, ?_⟩; decide +kernel

theorem witness_ZoneSetRefusals :
    chain.handlerFree ∧ (zoneBody 48#8 0#8 0#8 0#8 0#8 [0, 0]).length = 28 ∧
      byteAt (zoneBody 48#8 0#8 0#8 0#8 0#8 [0, 0]) 0 = 48 ∧ 2 ≤ byteAt (zoneBody 47#8 2#8 0#8 0#8 0#8 [0, 0]) 1 ∧
      ((chain.zone 12).cfg.active = true ∧ (chain.zone 20).cfg.active = true ∧ (chain.zone 20).cfg.lead = some 12) ∧
      (zoneSetCfg (zoneBody 47#8 1#8 2#8 48#8 0#8 [0, 0])).1.lead = some 48 ∧
      chain.walkMeets 1 48 20 = true ∧ (chain.zone 47).cfg.active = false ∧
      (zoneSetCfg (zoneBody 47#8 1#8 2#8 1#8 0#8 [0, 0])).1.mic = none ∧ 4 < chain.level 20 + chain.height 25 := by
  unfold State.handlerFree; decide +kernel

theorem witness_ZoneSetRetires :
    audible.handlerFree ∧ (zoneBody 47#8 0#8 0#8 0#8 0#8 [0, 0]).length = 28 ∧ (audible.zone 47).cfg.active = false ∧
      (audible.zone 12).cfg.active = true ∧
      (∀ d, d < 48 → (audible.zone d).cfg.active = true → (audible.zone d).cfg.lead ≠ some 12) ∧
      (audible.zone 12).stage ≠ .closed ∧ (roof.zone 12).stage = .closed ∧
      (flight12 .survey .capture).zone = 12 ∧ (flight12 .survey .capture).pendingOutcome = none ∧
      (flight12 .survey .capture).phase ≠ .quietWait := by
  unfold State.handlerFree; decide +kernel

theorem witness_ZoneSetActivates :
    let b := zoneBody 47#8 1#8 6#8 7#8 5#8 [0, 0]
    roof.handlerFree ∧ b.length = 28 ∧ byteAt b 1 = 1 ∧ zoneSetRanges b = true ∧ byteAt b 0 < 48 ∧
      (zoneSetCfg b).1.lead = some 7 ∧ roof.chainOk 47 7 (zoneSetCfg b).1.mic = true ∧
      (roof.zone 47).cfg.active = false ∧ roof.frozen = false ∧ frozenRoof.frozen = true ∧
      (roof.zone 47).retiring = false ∧ (retiringRoof.zone 12).cfg.active = false ∧
      (retiringRoof.zone 12).retiring = true ∧ (zoneSetCfg (b.set 20 1#8)).1.tracking = true := by
  unfold State.handlerFree; decide +kernel

theorem witness_ZoneSetReconfigures :
    let b := zoneBody 12#8 1#8 6#8 7#8 9#8 [0, 0]
    roof.handlerFree ∧ b.length = 28 ∧ byteAt b 1 = 1 ∧ zoneSetRanges b = true ∧ (zoneSetCfg b).1.lead = some 7 ∧
      roof.chainOk 12 7 (zoneSetCfg b).1.mic = true ∧ (roof.zone 12).cfg.active = true ∧ roof.frozen = false ∧
      frozenRoof.frozen = true ∧ (frozenRoof.zone 12).cfg.active = true ∧ (zoneSetCfg b).1.tracking = false ∧
      (zoneSetCfg (b.set 20 1#8)).1.tracking = true ∧ (roof.zone 12).cfg.tracking = false ∧
      (flying .survey .capture).flight = some (flight12 .survey .capture) ∧ roof.below (fun y => y == 7) 48 12 = true ∧
      roof.below (fun y => y == 12) 48 7 = false ∧
      chainLaw (fun d => if d = 12 then (zoneSetCfg b).1 else (roof.zone d).cfg) := by
  refine ⟨roof_handlerFree, ?_, ?_, ?_, ?_, ?_, ?_, ?_, ?_, ?_, ?_, ?_, ?_, ?_, ?_, ?_, chainLaw_of_check _ ?_⟩ <;>
    decide +kernel

theorem witness_ZoneMuteSetsHostMute :
    roof.handlerFree ∧ 48 ≤ (48#8).toNat ∧ 2 ≤ (2#8).toNat ∧ (roof.zone 47).cfg.active = false ∧
      (audible.zone 12).cfg.active = true ∧ (audible.zone 12).hostMute = false ∧ audible.muteAll = false ∧
      (flight12 .survey .capture).kind ≠ .loopInt := by
  unfold State.handlerFree; decide +kernel

theorem witness_RecomputationFollowsTheChains :
    frozenRoof.frozen = true ∧ roof.frozen = false ∧ chainLaw (fun z => (roof.zone z).cfg) ∧
      (roof.zone 12).cfg.active = true ∧ roof.below (fun y => y == 7) 48 12 = true ∧
      roof.below (fun y => y == 7) 48 1 = false ∧ (roof.zone 47).cfg.active = false := by
  refine ⟨?_, ?_, roof_chainLaw, ?_⟩ <;> decide +kernel

/-- At threshold 480 a difference of 7,680 glides and one of 7,681 crossfades. -/
theorem witness_TargetChangeIsEvaluated :
    (retiringRoof.zone 12).retiring = true ∧ (roof.zone 12).stage = .closed ∧ (roof.zone 12).retiring = false ∧
      (audible.zone 12).stage ≠ .closed ∧ (audible.zone 12).retiring = false ∧ (audible.zone 12).transition = .steady ∧
      (((221014 + 7680 : Nat) : Int) - (audible.zone 12).running).natAbs ≤ (audible.zone 12).cfg.xthr * 16 ∧
      (audible.zone 12).cfg.xthr * 16 < (((221014 + 7681 : Nat) : Int) - (audible.zone 12).running).natAbs ∧
      ({ audible.zone 12 with transition := .xfade 0 1 0 } : Zone).transition = .xfade 0 1 0 := by
  decide +kernel

/-- A full path table in which zones 44 to 47 and microphones 12 to 15 have no pair with microphone 5 or 9. -/
def fullRoof : State := roof.withPaths ((List.range 192).map fun i =>
  { zone := i % 48, mic := i / 48, dist := 1000, origin := .entered })

theorem witness_PathSetEntersThePath :
    roof.handlerFree ∧ [7#8, 5#8, 0#8, 0#8, 0#8, 0#8].length = 6 ∧ 48 ≤ (48#8).toNat ∧ 16 ≤ (16#8).toNat ∧
      (roof.zone 47).cfg.active = false ∧ (roof.mic 15).cfg.inUse = false ∧
      (roof.zone 7).cfg.active = true ∧ (roof.mic 5).cfg.inUse = true ∧
      (roof.paths.any fun p => p.zone == 7 && p.mic == 5) = true ∧ roof.paths.length < 192 ∧
      (roof.paths.any fun p => p.zone == 12 && p.mic == 5) = false ∧
      fullRoof.paths.length = 192 ∧ (fullRoof.paths.any fun p => p.zone == 7 && p.mic == 5) = false ∧
      roof.frozen = false ∧ chainLaw (fun d => (roof.zone d).cfg) ∧ roof.below (fun d => d == 7) 48 12 = true ∧
      (roof.zone 7).cfg.mic = some 5 ∧ (roof.zone 7).retiring = false := by
  refine ⟨roof_handlerFree, ?_, ?_, ?_, ?_, ?_, ?_, ?_, ?_, ?_, ?_, ?_, ?_, ?_, roof_chainLaw, ?_⟩ <;> decide +kernel

theorem witness_PathDropRemoves :
    roof.handlerFree ∧ (47#8).toNat < 48 ∧ (15#8).toNat < 16 ∧ ¬ ((48#8).toNat < 48 ∨ 48#8 = 0xFF#8) ∧
      (roof.paths.any fun p => p.zone == 47 && p.mic == 15) = false ∧
      (roof.paths.any fun p => p.zone == 1 && p.mic == 5) = true ∧ roof.frozen = false ∧
      chainLaw (fun d => (roof.zone d).cfg) ∧ (roof.zone 7).cfg.lead = some 1 ∧ (roof.zone 7).cfg.mic = some 5 ∧
      (roof.zone 7).cfg.active = true ∧ (roof.zone 7).retiring = false := by
  refine ⟨roof_handlerFree, ?_, ?_, ?_, ?_, ?_, ?_, roof_chainLaw, ?_⟩ <;> decide +kernel

/-- MIC_SET bodies: microphone, use, input slot, latency, region, enables. -/
def micBody (m use region : Byte) : List Byte := [m, use, 5#8, 0#8, 0#8, 0#8, 0#8, region, 15#8]

theorem micBody_lengths (m use region : Byte) :
    (micBody m use region).length = 9 ∧ ((micBody m use region).eraseIdx 6).length = 8 ∧
      ((micBody m use region).eraseIdx 6).take 6 ++ [0#8] ++ ((micBody m use region).eraseIdx 6).drop 6 =
        micBody m use region := ⟨rfl, rfl, rfl⟩

/-- The reply to a MIC_SET reports the use (R159). -/
theorem test_micSet_reports_use :
    (State.micSet (if Config.micSetLong then micBody 5#8 1#8 3#8 else (micBody 5#8 1#8 3#8).eraseIdx 6) roof).2.data =
      .micSet true := by
  have h : micSetNine (if Config.micSetLong then micBody 5#8 1#8 3#8 else (micBody 5#8 1#8 3#8).eraseIdx 6) =
      micBody 5#8 1#8 3#8 := by
    by_cases h : Config.micSetLong = true <;> simp [micSetNine, h, micBody]
  simp only [State.micSet, h]
  decide +kernel

theorem witness_MicSetConfigures :
    (∃ b : List Byte, b.length = (if Config.micSetLong then 9 else 8) ∧
      (if Config.micSetLong then b else b.take 6 ++ [0#8] ++ b.drop 6) = micBody 5#8 1#8 3#8) ∧
      roof.handlerFree ∧ (flight12 .survey .capture).phase = .capture ∧
      16 ≤ byteAt (micBody 16#8 1#8 3#8) 0 ∧ 2 ≤ byteAt (micBody 5#8 2#8 3#8) 1 ∧ 8 ≤ byteAt (micBody 5#8 1#8 8#8) 7 ∧
      byteAt (micBody 5#8 1#8 3#8) 0 < 16 ∧ byteAt (micBody 5#8 1#8 3#8) 1 < 2 ∧ byteAt (micBody 5#8 1#8 3#8) 2 < 32 ∧
      byteAt (micBody 5#8 1#8 3#8) 7 < 8 ∧ (roof.mic 5).cfg.inUse = true ∧ (roof.mic 5).cfg.region ≠ 3 ∧
      (roof.mic 15).cfg.inUse = false ∧ roof.frozen = false ∧ chainLaw (fun d => (roof.zone d).cfg) ∧
      (roof.zone 7).cfg.mic = some 5 ∧ (roof.zone 7).cfg.active = true ∧ (roof.zone 7).cfg.lead = some 1 ∧
      roof.below (fun d => d == 7) 48 12 = true ∧ roof.below (fun d => d == 7) 48 1 = false ∧
      (roof.paths.any fun p => p.mic == 5 && p.zone == 7) = true ∧
      (flying .survey .capture).flight = some (flight12 .survey .capture) ∧ (roof.mic 5).up = true := by
  refine ⟨?_, roof_handlerFree, ?_, ?_, ?_, ?_, ?_, ?_, ?_, ?_, ?_, ?_, ?_, ?_, roof_chainLaw, ?_⟩
  · by_cases h : Config.micSetLong = true
    · exact ⟨micBody 5#8 1#8 3#8, by simp [h, micBody], by simp [h]⟩
    · exact ⟨(micBody 5#8 1#8 3#8).eraseIdx 6, by simp [h, micBody], by simp [h, micBody]⟩
  all_goals decide +kernel

theorem witness_MicRestoreClearsCauses :
    roof.handlerFree ∧ 16 ≤ (16#8).toNat ∧ (15#8).toNat < 16 ∧ (roof.mic 15).state = .unused ∧
      (roof.mic 5).state ≠ .unused := by
  refine ⟨roof_handlerFree, ?_⟩; decide +kernel

/-- R156: a frame that leaves microphones 5 and 9 with an identical run of 4,800 takes both down in one event, before the
arbiter acts; the entry that waited starts with neither heard. -/
theorem test_two_mics_down :
    after (.stuckTrip 5) ((((flying .survey .quietWait).setMic 5 { roof.mic 5 with ident := 4800 }).setMic 9
        { roof.mic 9 with ident := 4800 }).withQueue [⟨7, .host, .survey, [], none, none, 0⟩]) (fun t =>
      (t.mic 5).down && (t.mic 9).down && t.flight.isNone && t.queue.isEmpty &&
        (t.link.tx.toList.map fun x => match x with | .notice _ (.micDown m ..) => m | _ => 99) == [5] &&
        (t.link.outbox.map fun n => match n with
          | .micDown m .. => (m, true) | .measureDone d => (d.zone, d.outcome == .noMics) | _ => (99, false)) ==
            [(9, true), (12, true), (7, true)]) = true := by decide +kernel

/-- A microphone in use with all conditions enabled meets every trip's condition; one unused meets none. -/
theorem witness_MicrophonesTrip :
    (roof.mic 5).cfg.inUse = true ∧ (roof.mic 5).cfg.enables = ⟨true, true, true, true⟩ ∧ roof.clock.audio = true ∧
      (roof.mic 5).down = false ∧ (roof.mic 15).cfg.inUse = false ∧ (flight12 .survey .capture).phase = .capture ∧
      (flying .survey .capture).flight = some (flight12 .survey .capture) ∧ (flight12 .survey .leadIn).phase = .leadIn ∧
      (flight12 .survey .quietWait).phase = .quietWait ∧ (flight12 .survey .analyse).phase = .analyse ∧
      ((flight12 .survey .capture).listen.any fun l => l.mic == 5 && l.standing == .heard) = true ∧
      ((flight12 .survey .capture).listen.any fun l => l.mic == 15 && l.standing == .heard) = false := by
  decide +kernel

/-- A sensor in use, FRESH in region 2, and the bus in one phase of its poll. -/
def sensing (phase : PollPhase) (retry voided : Bool) : State :=
  (roof.setSensor 7 { cfg := ⟨0x47, 2, true⟩, state := .fresh, reading := some ⟨200, 50, 0⟩, due := some 480000,
                      fails := 2, lastPoll := some 0 }).withBus { poll := some ⟨7, 0x47, retry, phase, voided⟩, last := 7 }

theorem witness_SensorSetConfigures :
    (sensing .read false false).handlerFree ∧ (0x08#8).toNat = 0x08 ∧ (0x77#8).toNat = 0x77 ∧
      ¬ (8#8).toNat < 8 ∧ ¬ 0x08 ≤ (0x07#8).toNat ∧ ¬ (0x78#8).toNat ≤ 0x77 ∧
      ((sensing .read false false).sensor 7).cfg.enabled = true ∧
      ((sensing .read false false).sensor 7).cfg.addr = (0x47#8).toNat ∧
      ((sensing .read false false).sensor 7).cfg = ⟨(0x47#8).toNat, (2#8).toNat, 1#8 == 1#8⟩ ∧
      ((sensing .read false false).sensor 7).cfg.region < 8 ∧
      (∀ j, j < 8 → ¬ (j ≠ 7 ∧ ((sensing .read false false).sensor j).cfg.enabled = true)) := by
  unfold State.handlerFree; decide +kernel

theorem witness_PollsStartAndGoThroughTheirPhases :
    (sensing .read false false).bus.poll ≠ none ∧ (∀ n, n < 8 → (roof.sensor n).cfg.enabled = false) ∧
      ((sensing .read false false).withBus {}).bus.poll = none ∧
      ((sensing .read false false).sensor ((7 + 1 + 7) % 8)).due = some 480000 ∧
      ((sensing .read false false).sensor 7).cfg.enabled = true ∧
      ((sensing .read false false).withClock { now := 480000 }).clock.now = 480000 ∧
      (∀ j, j < 7 → ((sensing .read false false).sensor j).cfg.enabled = false) ∧
      (sensing .command false false).bus.poll = some ⟨7, 0x47, false, .command, false⟩ ∧
      (sensing .command false true).bus.poll = some ⟨7, 0x47, false, .command, true⟩ ∧
      (sensing (.wait 0) false false).bus.poll = some ⟨7, 0x47, false, .wait 0, false⟩ := by
  decide +kernel

/-- A first attempt, a retry that is the third failure, a voided poll, and a read with a bad check. -/
theorem witness_FailedAttemptsAreRetriedThenCounted :
    (sensing .read false false).bus.poll = some ⟨7, 0x47, false, .read, false⟩ ∧
      (sensing .read true false).bus.poll = some ⟨7, 0x47, true, .read, false⟩ ∧
      (sensing .read true true).bus.poll = some ⟨7, 0x47, true, .read, true⟩ ∧
      ((sensing .read true false).sensor 7).fails = 2 ∧ ((sensing .read true false).sensor 7).state = .fresh ∧
      convertRead 0#8 0#8 0#8 0#8 1#8 = .inl .badCheck ∧ ((sensing .read true false).sensor 7).cfg.region < 8 ∧
      (sensing (.wait 0) false false).bus.poll = some ⟨7, 0x47, false, .wait 0, false⟩ ∧
      (sensing .command true false).bus.poll = some ⟨7, 0x47, true, .command, false⟩ := by
  decide +kernel

/-- Raw temperatures −4,000 and 8,500 with raw humidity 10,000 are in range; the next ones are not. -/
theorem witness_ReadsAreCheckedAndConverted :
    convertRead 0xF0#8 0x60#8 0x27#8 0x10#8 0x73#8 = .inr (-400, 100) ∧
      convertRead 0x21#8 0x34#8 0#8 0#8 0x92#8 = .inr (850, 0) ∧
      convertRead 0xF0#8 0x5F#8 0#8 0#8 0x60#8 = .inl .outOfRange ∧
      convertRead 0x21#8 0x35#8 0#8 0#8 0xF9#8 = .inl .outOfRange ∧
      convertRead 0#8 0#8 0x27#8 0x11#8 0xB2#8 = .inl .outOfRange ∧
      crc8 [0xF0#8, 0x60#8, 0x27#8, 0x10#8] ≠ 0x72#8 := by
  decide +kernel

theorem witness_GoodReadsAreApplied :
    (sensing .read true false).bus.poll = some ⟨7, 0x47, true, .read, false⟩ ∧
      (sensing .read true true).bus.poll = some ⟨7, 0x47, true, .read, true⟩ ∧
      ((sensing .read true false).sensor 7).cfg.region < 8 ∧ convertRead 0#8 0#8 0#8 0#8 0#8 = .inr (0, 0) := by
  decide +kernel

/-- Region 2 in each state, with and without its FRESH sensor. -/
def inRegion (x : RegionState) : State := (sensing .read false false).setRegion 2 ⟨x, 200, 50⟩

theorem witness_RegionsAreReevaluated :
    ((inRegion (.override 285 40)).region 2).state = .override 285 40 ∧ ((inRegion .sensors).region 2).state = .sensors ∧
      ((inRegion (.held 0)).region 2).state = .held 0 ∧ ((inRegion .deflt).region 2).state = .deflt ∧
      (inRegion .sensors).freshIn 2 ≠ [] ∧ (roof.setRegion 2 ⟨.sensors, 200, 50⟩).freshIn 2 = [] ∧
      (roof.setRegion 7 ⟨.held 0, 200, 50⟩).freshIn 7 = [] := by
  decide +kernel

theorem witness_ReadingsAndHoldsExpire :
    ((inRegion .sensors).sensor 7).state = .fresh ∧ ((inRegion .sensors).sensor 7).reading = some ⟨200, 50, 0⟩ ∧
      ((inRegion .sensors).sensor 7).cfg.region < 8 ∧ ((inRegion .sensors).sensor 0).state ≠ .fresh ∧ ((inRegion (.held 0)).region 2).state = .held 0 ∧
      ((inRegion (.held 0)).region 7).state = .deflt := by
  decide +kernel

theorem witness_RegionsAreOverridden :
    roof.handlerFree ∧ [2#8, 0#8, 0#8, 0#8, 0#8].length = 5 ∧ 8 ≤ byteAt [8#8, 0#8, 0#8, 0#8, 0#8] 0 ∧
      2 ≤ byteAt [7#8, 2#8, 0#8, 0#8, 0#8] 1 ∧ byteAt [7#8, 1#8, 0#8, 0#8, 0#8] 1 = 1 ∧
      (roof.region 7).state = .deflt ∧ (roof.region 2).state = .override 285 40 ∧ roof.freshIn 2 = [] ∧
      (∃ mean, sensorMean ((inRegion (.override 285 40)).freshIn 2) = some mean) := by
  refine ⟨roof_handlerFree, ?_, ?_, ?_, ?_, ?_, ?_, ?_, (200, 50), ?_⟩ <;> decide +kernel

theorem witness_SpeedsFlightTimesAndShelves :
    (roof.zone 1).cfg.mic = none ∧ (roof.zone 7).cfg.mic = some 5 ∧
      (roof.paths.find? (fun p => p.zone == 7 && p.mic == 5)).isSome = true ∧
      (∀ p ∈ roof.paths, ¬ (p.zone = 47 ∧ p.mic = 5)) := by
  decide +kernel

theorem witness_NewSetsAreTaken :
    (roof.zone 12).stage = .closed ∧ (audible.zone 12).stage ≠ .closed ∧ (audible.zone 12).eq.xfade = none ∧
      ({ audible.zone 12 with eq := { xfade := some ⟨{}, {}, 0⟩ } } : Zone).eq.xfade ≠ none := by
  decide +kernel

theorem witness_EqSetFormsASet :
    roof.handlerFree ∧ [7#8, 0#8].length = 2 + 8 * byteAt [7#8, 0#8] 1 ∧
      (47#8 :: 8#8 :: List.replicate 64 (0#8 : Byte)).length = 2 + 8 * 8 ∧ (roof.zone 47).cfg.active = false ∧
      (roof.zone 7).cfg.active = true ∧ 8 < byteAt (7#8 :: 9#8 :: List.replicate 72 (0#8 : Byte)) 1 ∧
      48 ≤ byteAt [48#8, 0#8] 0 := by
  refine ⟨roof_handlerFree, ?_⟩; decide +kernel

theorem witness_CrossfadesAndFadesEnd :
    let zn := audible.zone 12
    ({ zn with eq := { xfade := some ⟨{}, {}, 960⟩, pendingSet := some {} } } : Zone).eq.xfade = some ⟨{}, {}, 960⟩ ∧
      ({ zn with transition := .xfade 0 768000 960 } : Zone).transition = .xfade 0 768000 960 ∧
      (retiringRoof.zone 12).stage = .fadingOut ∧ (retiringRoof.zone 12).retiring = true ∧
      (retiringRoof.zone 12).cfg.active = false ∧ zn.retiring = false ∧
      ({ zn with stage := .fadingIn } : Zone).stage = .fadingIn := by
  decide +kernel

/-- Zone 12 activated again in its retirement fade-out. -/
def reactivated : State := roof.setZone 12 { opened (roof.zone 12) with stage := .fadingOut, retiring := true }

/-- The roof ring without an audio frame clock. -/
def silentRoof : State := roof.withClock { audio := false }

theorem witness_MillisecondBoundaryMovesGlides :
    silentRoof.clock.audio = false ∧ roof.clock.audio = true ∧ (roof.zone 47).transition ≠ .glide ∧
      (opened { roof.zone 7 with transition := .glide }).transition = .glide ∧ (roof.mic 15).cfg.inUse = false ∧
      (roof.mic 5).cfg.inUse = true ∧ (roof.zone 47).fade = 0 ∧
      (let x := opened zone1
       x.fade = 960 ∧ x.transition = .steady ∧ x.slide = none ∧ x.running % 16 = 0 ∧ roof.flight = none ∧
        x.eq.xfade = none ∧ (∀ b ∈ x.eq.current.bands, b.enabled = false) ∧ x.eq.current.shelf = 0 ∧
        -(2 : Int) ^ (Config.wordBits - 1) ≤ ([] : List Int).headD 0 ∧
        ([] : List Int).headD 0 < 2 ^ (Config.wordBits - 1)) := by
  refine ⟨?_, ?_, ?_, ?_, ?_, ?_, ?_, ?_, ?_, ?_, ?_, ?_, ?_, ?_, ?_, ?_, ?_⟩
  iterate 15 decide +kernel
  · exact Int.neg_nonpos_of_nonneg (Int.le_of_lt (Int.pow_pos (by decide)))
  · exact Int.pow_pos (by decide)

theorem witness_AudioClockIsLostAndReturns :
    silentRoof.clock.audio = false ∧ audible.clock.audio = true ∧ (audible.zone 12).stage ≠ .closed ∧
      (audible.zone 12).retiring = false ∧ (audible.zone 47).stage = .closed ∧ (retiringRoof.zone 12).retiring = true ∧
      (retiringRoof.zone 12).stage ≠ .closed ∧ (flying .survey .capture).flight.isSome = true ∧
      (retiringRoof.zone 12).cfg.active = false ∧ (reactivated.zone 12).stage ≠ .closed ∧
      (reactivated.zone 12).retiring = true ∧ (reactivated.zone 12).cfg.active = true ∧
      (let x := audible.zone 12
       x.transition = .steady ∧ x.slide = none ∧ 16 ≤ x.running ∧ (∀ v ∈ x.memory.drop (x.running / 16 - 1), v = 0) ∧
        (∀ n ∈ x.eq.memA, n = 0) ∧ (∀ n ∈ x.eq.memB, n = 0) ∧ audible.flight = none) := by
  decide +kernel

/-- A read point between two samples that the feed has not reached reads silence (R88, R91). -/
theorem test_silence_before_the_feed : readMemory [5, 5, 5] (3 * 768 + 48) = 0 := by decide +kernel

/-- A PROBE_REQUEST body of zone 7 and these microphones. -/
def probeBody (z kind : Byte) (mics : List Byte) : List Byte :=
  [z, kind, 3#8, 0xD8#8, 4#8, 0#8, BitVec.ofNat 8 mics.length] ++ mics

def host (z : Nat) : Entry := ⟨z, .host, .survey, [], none, none, 0⟩

theorem witness_ProbeRequestIsAdmitted :
    roof.handlerFree ∧ 7 ≤ (probeBody 7#8 0#8 [5#8]).length ∧
      (probeBody 7#8 0#8 [5#8]).length = 7 + byteAt (probeBody 7#8 0#8 [5#8]) 6 ∧
      byteAt (probeBody 48#8 0#8 []) 0 = 48 ∧ byteAt (probeBody 47#8 2#8 []) 1 ∉ [0, 1, 3, 4] ∧
      (byteAt (probeBody 7#8 4#8 []) 1, Kind.loopExt) ∈ [(0, Kind.survey), (1, .check), (3, .loopInt), (4, .loopExt)] ∧
      ¬ [5, 5].Nodup ∧ (roof.zone 47).cfg.active = false ∧ (roof.zone 7).cfg.active = true ∧
      (roof.mic 15).cfg.inUse = false ∧ (roof.mic 5).cfg.inUse = true ∧ (roof.zone 7).hostMute = false ∧
      roof.muteAll = false ∧ roof.flight = none ∧ roof.queue = [] ∧ roof.clock.audio = true ∧ roof.holdOn = false ∧
      (flying .survey .capture).flight = some (flight12 .survey .capture) ∧ (roof.zone 12).cfg.active = true ∧
      (∃ e ∈ (roof.withQueue [host 7]).queue, e.zone = 7 ∧ e.cls = .host) ∧
      32 ≤ (roof.withQueue ((List.range 32).map fun i => host (i + 13))).queue.length := by
  refine ⟨roof_handlerFree, ?_⟩; decide +kernel

theorem witness_ProbeCancelRemovesAndAborts :
    (flying .survey .quietWait).handlerFree ∧ 48 ≤ (48#8).toNat ∧ (48#8 : Byte) ≠ 0xFF#8 ∧ (47#8).toNat < 48 ∧
      (flying .survey .quietWait).flight = some (flight12 .survey .quietWait) ∧
      (flying .survey .capture).flight = some (flight12 .survey .capture) ∧
      (flight12 .survey .capture).phase ≠ .quietWait ∧ (flight12 .survey .capture).pendingOutcome = none ∧
      (fun z => z == 12) (flight12 .survey .capture).zone = true ∧ ¬ (fun z => z == 7) (flight12 .survey .capture).zone = true ∧
      (∃ e ∈ busy.queue, e.cls = .auto ∧ e.zone < 48 ∧ busy.tracked e.zone = true) := by
  unfold State.handlerFree; decide +kernel

theorem witness_ArbiterStartsTheOldest :
    silentRoof.clock.audio = false ∧ (flying .survey .capture).flight ≠ none ∧ roof.flight = none ∧
      (roof.withQueue [host 7]).nextEntry = some (host 7) ∧ (roof.withQueue [host 7]).clock.audio = true ∧
      ((List.range 16).any fun m => (roof.mic m).up) = true ∧
      (roof.withQueue [⟨7, .host, .survey, [15], none, none, 0⟩]).nextEntry =
        some ⟨7, .host, .survey, [15], none, none, 0⟩ ∧ (roof.mic 15).up = false ∧
      (roof.withQueue [⟨7, .host, .loopInt, [], none, none, 0⟩]).nextEntry =
        some ⟨7, .host, .loopInt, [], none, none, 0⟩ := by
  decide +kernel

/-- Zone 7 tracked and due, with the engine idle and no entry waiting. -/
def idleRoof : State :=
  (roof.setZone 7 { zone7 with cfg := { zone7.cfg with tracking := true } }).setDue 7 (some 2880000)

/-- Zone 7 tracked and due, with a measurement of zone 12 in flight. -/
def dueRoof : State :=
  ((flying .survey .capture).setZone 7 { zone7 with cfg := { zone7.cfg with tracking := true } }).setDue 7 (some 2880000)

theorem witness_TrackingDueAdmitsTheZone :
    dueRoof.dueAt 7 = some 2880000 ∧ dueRoof.flight = some (flight12 .survey .capture) ∧
      (dueRoof.zone 7).cfg.active = true ∧ (dueRoof.zone 7).cfg.tracking = true ∧
      dueRoof.frozen = false ∧ dueRoof.holdOn = false ∧ (dueRoof.zone 7).hostMute = false ∧ dueRoof.muteAll = false ∧
      (∃ p ∈ dueRoof.paths, p.zone = 7 ∧ (dueRoof.mic p.mic).up = true) ∧ (∀ e ∈ dueRoof.queue, e.zone ≠ 7) ∧
      (flight12 .survey .capture).zone ≠ 7 ∧ dueRoof.queue.length < 24 ∧
      (∀ y, y < 48 → y ≠ 7 → (dueRoof.withClock { now := 2880000 }).admissible y = false) ∧
      ¬ ((List.range 24).map host).length < 24 ∧
      idleRoof.dueAt 7 = some 2880000 ∧ idleRoof.flight = none ∧ idleRoof.clock.audio = true ∧ idleRoof.queue = [] ∧
      (idleRoof.zone 7).cfg.active = true ∧ (idleRoof.zone 7).cfg.tracking = true ∧ idleRoof.frozen = false ∧
      idleRoof.holdOn = false ∧ (idleRoof.zone 7).hostMute = false ∧ idleRoof.muteAll = false ∧
      (∃ p ∈ idleRoof.paths, p.zone = 7 ∧ (idleRoof.mic p.mic).up = true) ∧
      (∀ y, y < 48 → y ≠ 7 → (idleRoof.withClock { now := 2880000 }).admissible y = false) := by
  decide +kernel

theorem witness_MeasurementPhasesEnd :
    (flying .check .quietWait).flight = some (flight12 .check .quietWait) ∧
      (flight12 .check .quietWait).listen.any (fun l => l.standing == .heard &&
        decide ((roof.mic l.mic).ambient ≤ roof.globals.ceiling * 10)) = true ∧
      (flight12 .check .quietWait).quietSince = some 0 ∧ (flight12 .check .leadIn).phase = .leadIn ∧
      (flight12 .check .capture).phase = .capture ∧ (flight12 .check .leadIn).phase ≠ .quietWait ∧
      ({ flight12 .check .rampOut with pendingOutcome := some .cancelled } : Flight).pendingOutcome = some .cancelled := by
  decide +kernel

theorem witness_VerdictsFollowThePeaks :
    (0 < 1) ∧ ((flight12 .check .analyse).listen.map fun l => l.standing) = [.heard, .heard] ∧
      (flight12 .check .analyse).kind ≠ .loopExt ∧ (flight12 .loopExt .analyse).kind = .loopExt ∧ (0 < 127) ∧
      (analysePeak [] .whole 3).pnr < roof.globals.pnrMin ∧
      roof.globals.pnrMin ≤ (analysePeak [(5, 1000)] .whole 127).pnr ∧
      (let mags := [(4, 60), (5, 100), (6, 80)]
       let p := analysePeak mags .whole 127
       p.k = 5 ∧ p.unwrapped - 16 * p.k = 3 ∧
        (magAt mags 127 4 : Int) - 2 * magAt mags 127 5 + magAt mags 127 6 ≠ 0 ∧ p.pnr = 999) ∧
      (analysePeak [(4, 999), (5, 1000), (60, 10)] .whole 127).pnr < 999 ∧
      (let p := analysePeak [(5, 1000), (6, 1000)] .whole 127
       p.unwrapped - 16 * p.k = 8) := by
  decide +kernel

/-- With nothing in the readings each entry is LOW_PNR; a clear peak at sample 80 is FOUND. -/
theorem witness_AnalysisCompletes :
    let f : Flight := { flight12 .check .analyse with order := 7 }
    let g : Flight := { f with kind := .survey }
    (roof.withFlight (some f)).flight = some f ∧ f.phase = .analyse ∧ f.kind = .check ∧ f.attempt = 1 ∧ f.noRetry = false ∧
      (f.listen.map fun l => (roof.analyse f [] l).verdict) = [.lowPnr, .lowPnr] ∧ g.kind = .survey ∧
      (roof.analyse g [⟨5, [(80, 1000)]⟩] { mic := 5, standing := .heard, window := .whole }).verdict = .found ∧ (roof.mic 5).up = true ∧
      (roof.paths.any fun p => p.zone == 12 && p.mic == 9) = true ∧ roof.frozen = false ∧
      (roof.zone 12).cfg.mic = some 9 ∧ (roof.zone 12).cfg.lead = some 7 ∧ (roof.zone 12).retiring = false ∧
      (flight12 .loopInt .analyse).kind = .loopInt ∧ (flight12 .loopExt .analyse).kind = .loopExt := by
  decide +kernel

/-- A LOOP_EXT latency found at a microphone that went DOWN in ANALYSE is not written (R156). -/
theorem test_loopExt_of_a_down_mic :
    let es : List DoneEntry := [{ mic := 9, verdict := .found, tof := some 100 }]
    roof.loopLatency es = some 100 ∧ (roof.setMic 9 { roof.mic 9 with down := true }).loopLatency es = none := by
  decide +kernel

theorem witness_TrackerLocksAndLoses :
    let a : Path := { zone := 7, mic := 5, dist := 0, origin := .entered }
    a.tracker = .acquire ∧ ({ a with goodRun := 2 } : Path).goodRun = 2 ∧ (-16 : Int) ≤ 16 ∧
      ({ a with tracker := .track, missRun := 3 } : Path).missRun = 3 ∧
      ({ a with tracker := .track } : Path).tracker = .track := by
  decide +kernel

theorem witness_TrackingResultsAreApplied :
    (flying .track .analyse).flight = some (flight12 .track .analyse) ∧ (flight12 .track .analyse).phase = .analyse ∧
      ((flight12 .track .analyse).listen.map fun l => l.mic).Nodup ∧
      ((flying .track .analyse).paths.map fun p => (p.zone, p.mic)).Nodup ∧
      ({ flight12 .track .analyse with attempt := 2 } : Flight).attempt ≠ 1 ∧
      (∃ p ∈ roof.paths, ∃ l ∈ (flight12 .track .analyse).listen, p.zone = 12 ∧ p.mic = l.mic ∧ l.window ≠ .whole ∧
        l.standing ≠ .dropped ∧ (roof.mic l.mic).up = true) ∧
      (∃ p ∈ roof.paths, p.zone ≠ 12) ∧ (roof.mic 9).cfg.inUse = true ∧ (roof.mic 15).cfg.inUse = false ∧
      15 ∉ (flight12 .track .analyse).listen.map (fun l => l.mic) ∧ roof.frozen = false ∧
      (roof.zone 12).cfg.active = true := by
  decide +kernel

/-- An image of the roof ring's configuration that reads with a right and with a wrong check. -/
def saved (good : Bool) : State :=
  roof.withStore ⟨some ⟨roof.snapshot, crc32 (Config.imageBytes roof.snapshot) + if good then 0 else 1⟩, true, false, some .load⟩

theorem witness_StartUpTakesStartUpValues :
    (State.reset.store.image.bind fun x => if true = true ∧ x.check = crc32 (Config.imageBytes x.contents)
      then some x.contents else none) = none ∧
    ((saved true).store.image.bind fun x => if true = true ∧ x.check = crc32 (Config.imageBytes x.contents)
      then some x.contents else none) = some roof.snapshot := by
  simp [State.reset, saved, State.withStore]

theorem witness_ResetsAndResume :
    roof.handlerFree ∧ (3#8 : Byte) ≠ 1#8 ∧ (3#8 : Byte) ≠ 2#8 ∧ roof.frozen = false ∧ frozenRoof.frozen = true ∧
      frozenRoof.link.reply = none ∧ frozenRoof.link.resetting = false ∧ chainLaw (fun z => (roof.zone z).cfg) ∧
      dueRoof.dueAt 7 = some 2880000 ∧ (flight12 .survey .capture).phase ≠ .quietWait ∧
      (∀ z, z < 48 → ((flying .survey .quietWait).zone z).cfg.active = true →
        1 ≤ ((flying .survey .quietWait).zone z).cfg.interval) ∧
      (flying .survey .quietWait).flight = some (flight12 .survey .quietWait) ∧
      (flight12 .survey .quietWait).phase = .quietWait ∧ (flight12 .survey .quietWait).pendingOutcome = none := by
  refine ⟨roof_handlerFree, ?_, ?_, ?_, ?_, ?_, ?_, roof_chainLaw, ?_⟩ <;> decide +kernel

/-- A GLOBAL_SET body with these supervision fields. -/
def globalBody (supTime action : Byte) : List Byte :=
  [16#8, 4#8, 0xD8#8, 150#8, 0#8, 0xEC#8, 60#8, 0#8, 200#8, 0#8, 50#8, 10#8, 0x84#8, 3#8, 2#8, supTime, action]

theorem witness_GlobalSetStoresSettings :
    roof.handlerFree ∧ (globalBody 10#8 1#8).length = 17 ∧ byteAt (globalBody 10#8 1#8) 15 ∈ [0, 1, 2, 5, 10] ∧
      byteAt (globalBody 10#8 1#8) 16 < 2 ∧ byteAt (globalBody 3#8 1#8) 15 ∉ [0, 1, 2, 5, 10] ∧
      ¬ byteAt (globalBody 10#8 2#8) 16 < 2 ∧ roof.freshIn 7 = [] ∧ (roof.region 7).state = .deflt ∧
      ((inRegion (.held 0)).region 2).state = .held 0 ∧ ((inRegion .sensors).sensor 7).state = .fresh ∧
      ((inRegion .sensors).sensor 7).lastPoll = some 0 ∧ (inRegion .sensors).bus.poll ≠ none ∧
      (flight12 .survey .capture).phase ≠ .quietWait := by
  refine ⟨roof_handlerFree, ?_⟩; decide +kernel

/-- A line level change of the dedicated line 5 to low, and a LINE_SET at the ends of its ranges. -/
theorem witness_LinesAreWrittenAndTaken :
    roof.handlerFree ∧ 6 ≤ (6#8).toNat ∧ (5#8).toNat < 6 ∧ (1#8).toNat < 2 ∧ ¬ (2#8).toNat < 2 ∧
      (roof.line 5).taken ≠ false ∧ (roof.line 5).taken = true ∧ roof.lineDrive 5 = none ∧
      (roof.line 4).taken ≠ true ∧ roof.lineDrive 4 = some false ∧ ¬ 3 ≤ (roof.line 4).agree ∧
      (flight12 .survey .capture).kind ≠ .loopInt ∧ (flight12 .survey .capture).pendingOutcome = none ∧
      (flight12 .survey .capture).phase ≠ .quietWait ∧ (flight12 .survey .capture).phase ≠ .analyse ∧
      (flight12 .survey .analyse).phase = .analyse ∧ (flight12 .loopInt .capture).kind = .loopInt := by
  refine ⟨roof_handlerFree, ?_⟩; decide +kernel

theorem witness_StoreOperationsRun :
    roof.handlerFree ∧ roof.store.op = none ∧ (saved true).store.op ≠ none ∧ (saved true).link.reply = none ∧
      (saved true).link.resetting = false ∧
      (roof.withStore { op := some (.save roof.snapshot) }).store.op = some (.save roof.snapshot) :=
  ⟨roof_handlerFree, rfl, by simp [saved, State.withStore], roof_handlerFree.1, roof_handlerFree.2, rfl⟩

theorem witness_StoreLoadReplacesConfiguration :
    (saved false).store.op = some .load ∧ (saved true).store.op = some .load ∧
      ((saved false).store.image.bind fun x => if true = true ∧ x.check = crc32 (Config.imageBytes x.contents)
        then some x.contents else none) = none ∧
      ((saved true).store.image.bind fun x => if true = true ∧ x.check = crc32 (Config.imageBytes x.contents)
        then some x.contents else none) = some roof.snapshot ∧
      (∀ f, (saved true).flight = some f → f.pendingOutcome ≠ none → f.phase = .rampOut) ∧
      chainLaw roof.snapshot.zoneCfg ∧ (saved true).link.supervision ≠ .lapsedNote ∧
      (∀ z, z < 48 → ((saved true).zone z).cfg.active = true → 1 ≤ ((saved true).zone z).cfg.interval) ∧
      (∀ z, z < 48 → (tget roof.snapshot.zones z).active = true → 1 ≤ (tget roof.snapshot.zones z).interval) := by
  refine ⟨by simp [saved, State.withStore], by simp [saved, State.withStore], by simp [saved, State.withStore],
    by simp [saved, State.withStore], fun f h => ?_, chainLaw_of_check _ (by decide +kernel), ?_, ?_, by decide +kernel⟩
  · have hn : (saved true).flight = none := by decide +kernel
    rw [hn] at h; cases h
  all_goals decide +kernel

/-- Bodies of 1,024 and 1,025 bytes, commands 0x01 and 0x3F, three and four commands waiting, each receiver state. -/
theorem witness_ReceiverKeepsGoodFrames :
    tooLong.length = 1025 ∧ ¬ 1024 < (List.replicate 1024 (0#8 : Byte)).length ∧ frameCheck 1#8 0#8 [] ≠ 0#16 ∧
      1 ≤ (1#8).toNat ∧ (0x3F#8).toNat ≤ 0x3F ∧ ¬ (0x40#8).toNat ≤ 0x3F ∧ roof.link.commands.length < 4 ∧
      ¬ (List.replicate 4 (⟨1#8, 0#8, []⟩ : RxCommand)).length < 4 ∧ roof.link.rx = .hunting ∧
      ({ rx := .assembling [0#8] 5 } : Link).rx = .assembling [0#8] 5 ∧ ({ rx := .firstSync 5 } : Link).rx = .firstSync 5 := by
  decide +kernel

theorem witness_TransmitterAndSupervision :
    roof.link.tx = none ∧ talking.link.tx ≠ none ∧ talking.link.resetting = false ∧ talking.link.outbox = [] ∧
      roof.link.supervision ≠ .watching ∧
      ({ supervision := .watching, lastGood := some 0 } : Link).supervision = .watching ∧
      ({ supervision := .watching } : Link).lastGood = none := by
  decide +kernel

/-! ### Witnesses of the laws -/

/-- The roof ring with a PATH_DROP waiting: it keeps the eight laws, and its step answers a next state. -/
def stepping : State := roof.withPending [.pathDrop 0#8 [1#8, 5#8]]

theorem stepping_goes : ∃ t, step stepping = .next t := by
  have h : (match step stepping with | .next _ => true | _ => false) = true := by decide +kernel
  generalize step stepping = o at h
  cases o with
  | next t => exact ⟨t, rfl⟩
  | fault _ => cases h
  | refused _ => cases h

theorem stepping_empty_store : stepping.store.image = none ∧ stepping.store.op = none := by decide +kernel

theorem stepping_storedLaw (p : Image → Prop) : stepping.storedLaw p := by
  constructor
  · intro x h; rw [stepping_empty_store.1] at h; cases h
  · intro im h; rw [stepping_empty_store.2] at h; cases h

theorem witness_EveryStepKeepsTheChainLaw : (∃ t, step stepping = .next t) ∧ stepping.ChainLaw :=
  ⟨stepping_goes, roof_chainLaw, stepping_storedLaw _⟩

theorem witness_EveryStepKeepsDelaysInRange : (∃ t, step stepping = .next t) ∧ stepping.DelaysInRange := by
  refine ⟨stepping_goes, fun z => ?_⟩
  have h : ((List.range 48).all fun z => decide ((stepping.zone z).target ≤ delayLimit) &&
    decide ((stepping.zone z).running ≤ delayLimit) && (stepping.zone z).transition == .steady) = true := by decide +kernel
  have key : (stepping.zone z).target ≤ delayLimit ∧ (stepping.zone z).running ≤ delayLimit ∧
      (stepping.zone z).transition = .steady := by
    by_cases hz : z < 48
    · have := List.all_eq_true.mp h z (List.mem_range.mpr hz)
      simp only [Bool.and_eq_true, decide_eq_true_eq, beq_iff_eq] at this
      exact ⟨this.1.1, this.1.2, this.2⟩
    · rw [State.zone, tget_out _ (by omega)]; decide
  exact ⟨key.1, key.2.1, by simp [key.2.2]⟩

theorem witness_EveryStepKeepsThePathLaw :
    (∃ t, step stepping = .next t) ∧ stepping.PathLaw ∧ stepping.NamesLaw := by
  refine ⟨stepping_goes, ⟨?_, ?_, stepping_storedLaw _⟩, ?_, ⟨fun f h => ?_, ?_⟩, stepping_storedLaw _⟩
  · unfold onePathEach; decide +kernel
  · unfold Path.InRange; decide +kernel
  · unfold pathsName; decide +kernel
  · have hn : stepping.flight = none := by decide +kernel
    rw [hn] at h; cases h
  · decide +kernel

/-- A step with a measurement in flight and other zones waiting. -/
theorem witness_EveryStepKeepsTheQueueLaw : (∃ t, step stepping = .next t) ∧ stepping.QueueLaw ∧ busy.QueueLaw := by
  refine ⟨stepping_goes, ⟨by decide +kernel, by decide +kernel, fun f h => ?_⟩, by decide +kernel, by decide +kernel, fun f h => ?_⟩
  · have hn : stepping.flight = none := by decide +kernel
    rw [hn] at h; cases h
  · have hf : busy.flight.map (fun f => f.zone) = some 3 := by decide +kernel
    rw [h] at hf
    have hz : f.zone = 3 := by simpa using hf
    rw [hz]; decide +kernel

theorem witness_EveryStepKeepsTheLinkLaw : (∃ t, step stepping = .next t) ∧ stepping.LinkLaw := by
  refine ⟨stepping_goes, ?_⟩; unfold State.LinkLaw; decide +kernel

theorem witness_EveryStepKeepsTheMicLaw : (∃ t, step stepping = .next t) ∧ stepping.MicLaw := by
  refine ⟨stepping_goes, fun m => ?_⟩
  have h : ∀ k, k < 16 → (stepping.mic k).InRange := by unfold Mic.InRange; decide +kernel
  by_cases hm : m < 16
  · exact h m hm
  · rw [State.mic, tget_out _ (by omega)]; unfold Mic.InRange; decide

theorem witness_EveryStepKeepsTheSensorLaw : (∃ t, step stepping = .next t) ∧ stepping.SensorLaw := by
  refine ⟨stepping_goes, ?_, ?_, stepping_storedLaw _⟩
  · unfold Sensor.Lawful; decide +kernel
  · have hn : stepping.bus.poll = none := by decide +kernel
    intro p h; rw [hn] at h; cases h

end Sys2Proof.Tests
end

section
/-! SUPPORT. A target change at the delay line: the three cases of R79, and the zones that do not evaluate it (R81, R84, R86,
R89). -/

namespace Sys2Proof.DelayLines

open Sys2Proof Sys2Proof.Machine

theorem absDiff_eq_natAbs (a b : Nat) : absDiff a b = ((a : Int) - b).natAbs := by
  unfold absDiff; split <;> omega

variable {z : Zone} {t : Nat}

/-! ### The three cases of R79 -/

theorem evaluate_of_eq (h : absDiff t z.running = 0) : z.evaluate t = { z with transition := .steady } := by
  simp [Zone.evaluate, h]

theorem evaluate_of_le (h0 : absDiff t z.running ≠ 0) (h : absDiff t z.running ≤ z.cfg.xthr * 16) :
    z.evaluate t = { z with transition := .glide } := by
  simp [Zone.evaluate, h0, h]

theorem evaluate_of_gt (h : z.cfg.xthr * 16 < absDiff t z.running) :
    z.evaluate t = { z with transition := .xfade z.running t 0 } := by
  have h0 : absDiff t z.running ≠ 0 := by omega
  simp [Zone.evaluate, h0, Nat.not_le.mpr h]

/-! ### Which zones evaluate a target change -/

theorem takeTarget_of_retiring (h : z.retiring = true) : z.takeTarget t = z := by simp [Zone.takeTarget, h]

theorem takeTarget_of_closed (hr : z.retiring = false) (hs : z.stage = .closed) :
    z.takeTarget t = { z with running := t, transition := .steady } := by
  simp [Zone.takeTarget, hr, hs]

theorem takeTarget_of_xfade {o e k : Nat} (hr : z.retiring = false) (hs : z.stage ≠ .closed)
    (hx : z.transition = .xfade o e k) : z.takeTarget t = z := by
  simp [Zone.takeTarget, hr, hs, hx]

theorem takeTarget_eq_evaluate (hr : z.retiring = false) (hs : z.stage ≠ .closed)
    (hm : z.transition = .steady ∨ z.transition = .glide) : z.takeTarget t = z.evaluate t := by
  rcases hm with hm | hm <;> simp [Zone.takeTarget, hr, hs, hm]

/-- Settles O16: an audible zone in STEADY or GLIDE evaluates the target, and the three cases of R79 are those of
`Zone.evaluate`; the other zones take it directly or not at all. -/
theorem targetChangeIsEvaluated : Obligations.TargetChangeIsEvaluated := by
  intro z t d
  have hd : absDiff t z.running = d.natAbs := absDiff_eq_natAbs t z.running
  refine ⟨takeTarget_of_retiring, takeTarget_of_closed, fun hr hs hm => ?_,
    fun o e k => takeTarget_of_xfade⟩
  rw [takeTarget_eq_evaluate hr hs hm]
  refine ⟨fun h => evaluate_of_eq ?_, fun h0 h => evaluate_of_le ?_ ?_, fun h => evaluate_of_gt ?_⟩ <;> omega

end Sys2Proof.DelayLines
end

section
/-! SUPPORT. A zone at the loss and at the return of the audio frame clock (R90, R91): its whole record after the event, one
lemma for each case. -/

namespace Sys2Proof.DelayLines

open Sys2Proof Sys2Proof.Machine

/-! ### The loss -/

/-- Settled with its filters cleared, an equaliser holds its latest set alone (R169; log entry 56). -/
theorem settle_clearFilters (e : Equaliser) : e.settle.clearFilters = ⟨e.bands, e.latest, none, none, [], []⟩ := by
  obtain ⟨bands, current, xfade, pendingSet, memA, memB⟩ := e
  cases xfade <;> cases pendingSet <;> rfl

variable {s : State} {z : Nat} {x : Zone}

theorem zoneAtLoss_of_closed (h : x.stage = .closed) :
    s.zoneAtLoss z x = { x with memory := [], eq := { x.eq with memA := [], memB := [] } } := by
  simp [State.zoneAtLoss, h, Equaliser.clearFilters]

theorem zoneAtLoss_of_staying (h : x.stage ≠ .closed) (hr : x.retiring = false) :
    s.zoneAtLoss z x = { x with
      stage := .closed, fade := 0, running := x.target, slide := none, transition := .steady, memory := []
      eq := ⟨x.eq.bands, x.eq.latest, none, none, [], []⟩ } := by
  simp [State.zoneAtLoss, h, State.closed, Zone.reachClosed, hr, Zone.close, settle_clearFilters]

theorem zoneAtLoss_of_retired (h : x.stage ≠ .closed) (hr : x.retiring = true) (ha : x.cfg.active = false) :
    s.zoneAtLoss z x = { x with
      stage := .closed, fade := 0, running := 0, slide := none, transition := .steady, memory := [], retiring := false
      eq := ⟨x.eq.bands, ⟨[], 0⟩, none, none, [], []⟩ } := by
  simp [State.zoneAtLoss, h, State.closed, Zone.reachClosed, hr, ha, Zone.finishRetire, Equaliser.cleared,
    Equaliser.clearFilters]

/-- With the audio frame clock absent the pending activation takes its values and begins no fade-in (R90). -/
theorem zoneAtLoss_of_reactivated (hc : s.clock.audio = false) (h : x.stage ≠ .closed) (hr : x.retiring = true)
    (ha : x.cfg.active = true) :
    s.zoneAtLoss z x = { x with
      stage := .closed, fade := 0, running := x.target, slide := none, transition := .steady, memory := []
      retiring := false, eq := ⟨x.eq.bands, ⟨x.eq.bands, s.shelf z⟩, none, none, [], []⟩ } := by
  simp [State.zoneAtLoss, h, State.closed, Zone.reachClosed, hr, ha, hc, Zone.finishRetire, Zone.activate,
    Zone.beginUnmute, Equaliser.cleared, Equaliser.clearFilters]

/-- What the loss makes of a zone `x` whose shelf gain is `shelf` (R89, R90, R169, R170). -/
def ShutByLoss (shelf : Nat) (x y : Zone) : Prop :=
  y.stage = .closed ∧ y.memory = [] ∧ y.cfg = x.cfg ∧ y.target = x.target ∧ y.eq.bands = x.eq.bands ∧
    y.eq.memA = [] ∧ y.eq.memB = [] ∧
    (x.stage = .closed → y = { x with memory := [], eq := { x.eq with memA := [], memB := [] } }) ∧
    (x.stage ≠ .closed → y.fade = 0 ∧ y.retiring = false ∧ y.transition = .steady ∧ y.eq.xfade = none ∧
      y.eq.pendingSet = none ∧
      (x.retiring = false → y.running = x.target ∧ y.eq.current = x.eq.latest) ∧
      (x.retiring = true → x.cfg.active = false → y.running = 0 ∧ y.eq.current = ⟨[], 0⟩) ∧
      (x.retiring = true → x.cfg.active = true → y.running = x.target ∧ y.eq.current = ⟨x.eq.bands, shelf⟩))

theorem zoneAtLoss_shut (hc : s.clock.audio = false) (z : Nat) (x : Zone) :
    ShutByLoss (s.shelf z) x (s.zoneAtLoss z x) := by
  by_cases hs : x.stage = .closed
  · rw [zoneAtLoss_of_closed hs]; simp [ShutByLoss, hs]
  cases hr : x.retiring with
  | false => rw [zoneAtLoss_of_staying hs hr]; simp [ShutByLoss, hs, hr]
  | true =>
    cases ha : x.cfg.active with
    | false => rw [zoneAtLoss_of_retired hs hr ha]; simp [ShutByLoss, hs, hr, ha]
    | true => rw [zoneAtLoss_of_reactivated hc hs hr ha]; simp [ShutByLoss, hs, hr, ha]

/-! ### The return -/

/-- A zone at the return of the audio frame clock (R91), as `State.regainAudio` rewrites each. -/
def zoneAtReturn (s : State) (z : Nat) (x : Zone) : Zone :=
  if x.cfg.active && !s.effMuted z then x.beginUnmute true else x

theorem beginUnmute_of_closed (hs : x.stage = .closed) (hr : x.retiring = false) :
    x.beginUnmute true = { x with stage := .fadingIn } := by
  simp [Zone.beginUnmute, hs, hr]

theorem beginUnmute_of_retiring (hr : x.retiring = true) : x.beginUnmute true = x := by
  simp [Zone.beginUnmute, hr]

theorem beginUnmute_of_open (hs : x.stage = .opened ∨ x.stage = .fadingIn) : x.beginUnmute true = x := by
  rcases hs with hs | hs <;> simp [Zone.beginUnmute, hs]

theorem zoneAtReturn_of_inactive (h : x.cfg.active = false) : zoneAtReturn s z x = x := by simp [zoneAtReturn, h]

theorem zoneAtReturn_of_muted (h : s.effMuted z = true) : zoneAtReturn s z x = x := by simp [zoneAtReturn, h]

theorem zoneAtReturn_of_heard (ha : x.cfg.active = true) (hm : s.effMuted z = false) :
    zoneAtReturn s z x = x.beginUnmute true := by
  simp [zoneAtReturn, ha, hm]

/-- The condition of R91 under which a zone begins its fade-in at the return. -/
def OpensAtReturn (s : State) (x : Zone) : Prop :=
  x.stage = .closed ∧ x.retiring = false ∧ x.cfg.active = true ∧ x.hostMute = false ∧ s.muteAll = false

theorem zoneAtReturn_of_opens (h : OpensAtReturn s (s.zone z)) :
    zoneAtReturn s z (s.zone z) = { s.zone z with stage := .fadingIn } := by
  obtain ⟨hs, hr, ha, hh, hm⟩ := h
  rw [zoneAtReturn_of_heard ha (by simp [State.effMuted, hh, hm]), beginUnmute_of_closed hs hr]

theorem zoneAtReturn_of_not_opens
    (hs : (s.zone z).stage = .closed ∨ (s.zone z).stage = .opened ∨ (s.zone z).stage = .fadingIn)
    (h : ¬ OpensAtReturn s (s.zone z)) : zoneAtReturn s z (s.zone z) = s.zone z := by
  cases ha : (s.zone z).cfg.active with
  | false => exact zoneAtReturn_of_inactive ha
  | true =>
    cases hm : s.effMuted z with
    | true => exact zoneAtReturn_of_muted hm
    | false =>
      rw [zoneAtReturn_of_heard ha hm]
      rcases hs with hs | hs
      · have hmute : (s.zone z).hostMute = false ∧ s.muteAll = false := by simpa [State.effMuted, ha] using hm
        have hr : (s.zone z).retiring = true := by simpa [OpensAtReturn, hs, ha, hmute] using h
        exact beginUnmute_of_retiring hr
      · exact beginUnmute_of_open hs

end Sys2Proof.DelayLines
end

section
/-! SUPPORT. The loss and the return of the audio frame clock on the whole state: the flight that ends (R129), the arbiter and
the scheduler at the end of the event (R99, R101, R103), and what the event leaves as it was. -/

namespace Sys2Proof.DelayLines

open Sys2Proof Sys2Proof.Machine

variable {s : State}

/-! ### The end of an event -/

/-- While the audio frame clock is absent no waiting entry starts: the scheduler alone acts (R101). -/
theorem settleQueue_of_absent (h : s.clock.audio = false) : s.settleQueue = State.admitDue 48 s := by
  simp [State.settleQueue, State.schedule, State.arbiterReady, h]

/-- The end of an event writes the queue, the due times, the flight and the link alone. -/
theorem conclude_eq (s : State) : s.conclude = { s with
    queue := s.conclude.queue, due := s.conclude.due, flight := s.conclude.flight, link := s.conclude.link } := by
  have h := s.conclude_keeps
  generalize s.conclude = t at h ⊢
  cases s; cases t; simp_all

theorem conclude_notes (s : State) : s.link.Notes s.conclude.link := by
  obtain ⟨ns, h⟩ : s.Raises s.settleQueue := State.Raises.same.settleQueue
  exact ⟨ns, congrArg Link.transmit h⟩

/-! ### The loss: the flight ends with the clock -/

/-- The state in which the flight has ended because the audio frame clock is lost: with the outcome already pending, else
ABORTED_CLOCK (R129). -/
def flightEnded (s : State) : State :=
  match s.flight with
  | none => s
  | some f => s.ended f (f.pendingOutcome.getD .abortedClock)

theorem flightEnded_of_none (h : s.flight = none) : flightEnded s = s := by simp [flightEnded, h]

theorem flightEnded_of_some {f : Flight} (h : s.flight = some f) :
    flightEnded s = s.ended f (f.pendingOutcome.getD .abortedClock) := by simp [flightEnded, h]

theorem finish_eq_ended (s : State) (f : Flight) (o : MeasureOutcome) : s.finish f o = s.ended f o := by
  by_cases h : s.tracked f.zone = true
  · have h' : ((s.zone f.zone).cfg.active && (s.zone f.zone).cfg.tracking) = true := h
    simp only [State.ended, State.dueAfter, if_pos h']
    exact if_pos h
  · have h' : ¬ ((s.zone f.zone).cfg.active && (s.zone f.zone).cfg.tracking) = true := h
    simp only [State.ended, State.dueAfter, if_neg h']
    exact if_neg h

theorem abortClock_eq (s : State) : s.abortClock = flightEnded s := by
  unfold State.abortClock flightEnded
  cases s.flight with
  | none => rfl
  | some f => exact finish_eq_ended s f _

/-- The state from which the loss rewrites the zones and the microphones: the audio frame clock is absent and the flight has
ended (R129). -/
def clockLost (s : State) : State := (flightEnded s).withClock { s.clock with audio := false }

theorem abortClock_absent (s : State) : (s.withClock { s.clock with audio := false }).abortClock = clockLost s := by
  rw [abortClock_eq]
  unfold clockLost flightEnded
  rw [State.withClock_flight]
  cases s.flight <;> rfl

/-- The loss (R90, R129, R161): the flight ends, and each zone and each microphone takes its values. -/
theorem loseAudio_eq (s : State) :
    s.loseAudio = ((clockLost s).withZones (tmap (clockLost s).zoneAtLoss s.zones)).withMics
      (tmap (fun _ x => x.atLoss) s.mics) := by
  have h := (s.withClock { s.clock with audio := false }).abortClock_keeps
  rw [abortClock_absent] at h
  obtain ⟨-, -, -, -, -, hz, -, -, -, -, -, hm, -⟩ := h
  unfold State.loseAudio
  rw [abortClock_absent]
  dsimp only
  rw [hz, hm]
  rfl

theorem clockLost_shelf (s : State) (z : Nat) : (clockLost s).shelf z = s.shelf z := by
  unfold clockLost flightEnded
  cases s.flight <;> rfl

theorem clockLost_flight (s : State) : (clockLost s).flight = none := by
  cases h : s.flight with
  | none => rw [clockLost, flightEnded_of_none h]; exact h
  | some f => rw [clockLost, flightEnded_of_some h]; rfl

/-- The end of the flight leaves everything but the flight, the due times and the link. -/
theorem clockLost_eq (s : State) : clockLost s = { s with
    clock := { s.clock with audio := false }, flight := none, due := (clockLost s).due, link := (clockLost s).link } := by
  cases h : s.flight with
  | none => rw [clockLost, flightEnded_of_none h, ← h]; rfl
  | some f => rw [clockLost, flightEnded_of_some h]; rfl

theorem loseAudio_frame (s : State) : s.loseAudio = { s with
    clock := s.loseAudio.clock, zones := s.loseAudio.zones, mics := s.loseAudio.mics
    flight := none, due := s.loseAudio.due, link := s.loseAudio.link } := by
  rw [loseAudio_eq]
  exact congrArg (fun u : State => (u.withZones (tmap (clockLost s).zoneAtLoss s.zones)).withMics
    (tmap (fun _ x => x.atLoss) s.mics)) (clockLost_eq s)

theorem loseAudio_zone (s : State) {z : Nat} (hz : z < 48) : ShutByLoss (s.shelf z) (s.zone z) (s.loseAudio.zone z) := by
  have h : s.loseAudio.zone z = (clockLost s).zoneAtLoss z (s.zone z) := by
    rw [loseAudio_eq]; exact tget_tmap _ _ hz
  rw [h, ← clockLost_shelf]
  exact zoneAtLoss_shut rfl z _

theorem loseAudio_mic (s : State) {m : Nat} (hm : m < 16) : s.loseAudio.mic m = (s.mic m).atLoss := by
  rw [loseAudio_eq]; exact tget_tmap _ _ hm

/-- Of the link the loss changes what the end of the flight raises (R131). -/
theorem loseAudio_link (s : State) : s.loseAudio.link = (flightEnded s).link := by rw [loseAudio_eq]; rfl

/-! ### The return -/

theorem regainAudio_zone (s : State) {z : Nat} (hz : z < 48) :
    s.regainAudio.zone z = zoneAtReturn s z (s.zone z) := tget_tmap _ _ hz

theorem regainAudio_mic (s : State) {m : Nat} (hm : m < 16) :
    s.regainAudio.mic m = { s.mic m with clip := 0, windowPos := 0 } := tget_tmap _ _ hm

end Sys2Proof.DelayLines
end

section
/-! SUPPORT. The silence before the feed (R88, R91): a zone whose read point the feed has not reached gives silence, and its
cleared filters stay cleared. -/

namespace Sys2Proof.DelayLines

open Sys2Proof Sys2Proof.Machine

/-- One sample taken in moves a silent stretch of the memory by one place (R77). -/
theorem silent_feedIn {zn : Zone} {n : Nat} (words : List Int) (hn : 1 ≤ n)
    (h : ∀ v ∈ zn.memory.drop (n - 1), v = 0) : ∀ v ∈ (zn.feedIn words).memory.drop n, v = 0 := by
  intro v hv
  obtain ⟨k, rfl⟩ : ∃ k, n = k + 1 := ⟨n - 1, by omega⟩
  have hv : v ∈ ((zn.feedSample words :: zn.memory).take 48004).drop (k + 1) := hv
  rw [List.drop_take, List.drop_succ_cons] at hv
  exact h v (List.mem_of_mem_take hv)

/-- A STEADY line whose feed has not come as far as its running delay gives silence (log entry 57). -/
theorem delayed_silent {zn : Zone} (frames : Nat) (ht : zn.transition = .steady) (hs : zn.slide = none)
    (h : ∀ v ∈ zn.memory.drop (zn.running / 16), v = 0) : zn.delayed frames = 0 := by
  simp only [Zone.delayed, Zone.readPoint, ht, hs]
  refine readMemory_silent ?_
  rwa [show zn.running * 48 / 768 = zn.running / 16 by omega]

theorem probeInto_of_other {s : State} {z : Nat} (h : ∀ f, s.flight = some f → f.zone ≠ z) : s.probeInto z = 0 := by
  unfold State.probeInto
  cases hf : s.flight with
  | none => rfl
  | some f => simp [h f hf]

theorem audioFrame_out (s : State) (words : List Int) {z : Nat} (hz : z < 48) :
    tget (s.audioFrame words).outSlots z = s.zoneOut z ((s.zone z).feedIn words) s.clock.frames := by
  refine (tget_tmap _ _ hz).trans ?_
  rw [tget_tmap _ _ hz]; rfl

theorem audioFrame_zone (s : State) (words : List Int) {z : Nat} (hz : z < 48) :
    (s.audioFrame words).zone z = ((s.zone z).feedIn words).frame s.clock.frames := by
  refine (tget_tmap _ _ hz).trans ?_
  rw [tget_tmap _ _ hz]; rfl

end Sys2Proof.DelayLines
end

section
/-! SUPPORT. The loss and the return of the audio frame clock as rows of the table: the state each leaves, and the statement
over both. -/

namespace Sys2Proof.DelayLines

open Sys2Proof Sys2Proof.Machine

variable (s : State)

/-! ### The end of either event -/

theorem conclude_clock : s.conclude.clock = s.clock := by simp
theorem conclude_zones : s.conclude.zones = s.zones := by simp
theorem conclude_mics : s.conclude.mics = s.mics := by simp
theorem conclude_zone (z : Nat) : s.conclude.zone z = s.zone z := State.zone_congr (conclude_zones s) z
theorem conclude_mic (m : Nat) : s.conclude.mic m = s.mic m := State.mic_congr (conclude_mics s) m

/-! ### The state after the loss -/

theorem lost_conclude : s.loseAudio.conclude = (State.admitDue 48 s.loseAudio).settleTx := by
  rw [State.conclude, settleQueue_of_absent (by rw [loseAudio_eq]; rfl)]

theorem lost_clock : s.loseAudio.conclude.clock = { s.clock with audio := false } := by
  rw [conclude_clock, loseAudio_eq]; rfl

theorem lost_flight : s.loseAudio.conclude.flight = none := by
  rw [lost_conclude, loseAudio_eq]; simp [clockLost_flight]

/-- No waiting entry starts: the queue gains what the scheduler admits and loses nothing (R99, R101). -/
theorem lost_queue : ∃ autos, s.loseAudio.conclude.queue = s.queue ++ autos ∧ ∀ e ∈ autos, e.cls = .auto := by
  obtain ⟨autos, hq, ha⟩ := s.loseAudio.admit_queue 48
  have h0 : s.loseAudio.queue = s.queue := by rw [loseAudio_eq, clockLost_eq]; rfl
  refine ⟨autos, ?_, fun e he => by rw [(ha e he).1]; rfl⟩
  rw [lost_conclude, ← h0, ← hq]; rfl

theorem lost_link : s.loseAudio.conclude.link = s.loseAudio.link.transmit := by
  have h : (State.admitDue 48 s.loseAudio).link = s.loseAudio.link := by simp
  rw [lost_conclude, ← h]; rfl

theorem lost_frame : s.loseAudio.conclude = { s with
    clock := s.loseAudio.conclude.clock, zones := s.loseAudio.conclude.zones, mics := s.loseAudio.conclude.mics
    flight := none, queue := s.loseAudio.conclude.queue, due := s.loseAudio.conclude.due
    link := s.loseAudio.conclude.link } := by
  refine (conclude_eq _).trans ?_
  rw [lost_flight, conclude_clock, conclude_zones, conclude_mics]
  exact congrArg (fun u : State => { u with
    queue := s.loseAudio.conclude.queue, due := s.loseAudio.conclude.due, flight := none
    link := s.loseAudio.conclude.link }) (loseAudio_frame s)

theorem lost_settles : s.loseAudio.conclude = ({ flightEnded s with
    clock := s.loseAudio.conclude.clock, zones := s.loseAudio.conclude.zones
    mics := s.loseAudio.conclude.mics } : State).conclude := by
  rw [conclude_clock, conclude_zones, conclude_mics]
  refine congrArg State.conclude ?_
  rw [loseAudio_eq]; rfl

/-! ### The state after the return -/

theorem returned_zone {z : Nat} (hz : z < 48)
    (hs : (s.zone z).stage = .closed ∨ (s.zone z).stage = .opened ∨ (s.zone z).stage = .fadingIn) :
    s.regainAudio.conclude.zone z = { s.zone z with stage :=
      if (s.zone z).stage = .closed ∧ (s.zone z).retiring = false ∧ (s.zone z).cfg.active = true ∧
        (s.zone z).hostMute = false ∧ s.muteAll = false then .fadingIn else (s.zone z).stage } := by
  rw [conclude_zone, regainAudio_zone s hz]
  by_cases h : OpensAtReturn s (s.zone z)
  · rw [zoneAtReturn_of_opens h]; unfold OpensAtReturn at h; rw [if_pos h]
  · rw [zoneAtReturn_of_not_opens hs h]; unfold OpensAtReturn at h; rw [if_neg h]

theorem returned_flight {f : Flight} (h : s.flight = some f) : s.regainAudio.conclude.flight = some f :=
  State.settleQueue_flight (s := s.regainAudio) h

theorem returned_frame : s.regainAudio.conclude = { s with
    clock := s.regainAudio.conclude.clock, zones := s.regainAudio.conclude.zones, mics := s.regainAudio.conclude.mics
    flight := s.regainAudio.conclude.flight, queue := s.regainAudio.conclude.queue
    due := s.regainAudio.conclude.due, link := s.regainAudio.conclude.link } := by
  refine (conclude_eq _).trans ?_
  rw [conclude_clock, conclude_zones, conclude_mics]; rfl

theorem returned_settles : s.regainAudio.conclude = ({ s with
    clock := s.regainAudio.conclude.clock, zones := s.regainAudio.conclude.zones
    mics := s.regainAudio.conclude.mics } : State).conclude := by
  rw [conclude_clock, conclude_zones, conclude_mics]; rfl

variable {s}

/-! ### The rows -/

theorem exec_loss_absent (h : s.clock.audio = false) : exec .audioClockLoss s = .next s := by
  simp [exec, execAudioClockLoss, h]

theorem exec_loss_present (h : s.clock.audio = true) : exec .audioClockLoss s = .next s.loseAudio.conclude := by
  simp [exec, execAudioClockLoss, h]

theorem exec_return_present (h : s.clock.audio = true) : exec .audioClockReturn s = .next s := by
  simp [exec, execAudioClockReturn, h]

theorem exec_return_absent (h : s.clock.audio = false) : exec .audioClockReturn s = .next s.regainAudio.conclude := by
  simp [exec, execAudioClockReturn, h]

/-- Settles O35: the loss ends the flight and rewrites each zone and microphone, after which the scheduler alone acts; the
return rewrites each zone and microphone, after which the arbiter and the scheduler act; and silence read from the memory
passes cleared filters as silence. -/
theorem audioClockIsLostAndReturns : Obligations.AudioClockIsLostAndReturns := by
  refine ⟨fun s => ⟨exec_loss_absent, fun h => ⟨_, exec_loss_present h, ?_⟩⟩,
    fun s => ⟨exec_return_present, fun h => ⟨_, exec_return_absent h, ?_⟩⟩, ?_⟩
  · refine ⟨lost_clock s, fun z hz => ?_, fun m hm => ?_, lost_flight s, lost_queue s, ?_, lost_frame s, lost_settles s⟩
    · rw [conclude_zone]; exact loseAudio_zone s hz
    · rw [conclude_mic]; exact loseAudio_mic s hm
    · rw [lost_link, loseAudio_link, flightEnded]
      cases s.flight <;> rfl
  · refine ⟨conclude_clock _, fun z hz hs => returned_zone s hz hs, fun m hm => ?_, fun f hf => returned_flight s hf,
      conclude_notes s.regainAudio, returned_frame s, returned_settles s⟩
    rw [conclude_mic]; exact regainAudio_mic s hm
  · intro s words z hz x t hsteady hslide hrun hmem ha hb hf
    have hd : (x.feedIn words).delayed s.clock.frames = 0 :=
      delayed_silent _ hsteady hslide (silent_feedIn words (by show 1 ≤ x.running / 16; omega) hmem)
    obtain ⟨hout, hA, hB⟩ := x.eq.step_silent ha hb
    refine ⟨?_, ?_, ?_⟩
    · rw [audioFrame_out s words hz, State.zoneOut, probeInto_of_other hf, hd]
      simp [Zone.feedIn, x, hout]
    · rw [audioFrame_zone s words hz, Zone.frame, hd]; exact hA
    · rw [audioFrame_zone s words hz, Zone.frame, hd]; exact hB

end Sys2Proof.DelayLines
end
